-- ==== Sys2Proof/Word.lean ====
section
/-! DEFINITION. The byte and the 16-bit word of the machine (spec 00_scope.md R6, R8). Their arithmetic is that of
bit vectors: every result is taken modulo 256 or 65 536. -/

namespace Sys2Proof

/-- An 8-bit register or the byte of one bus access (R6, "data bus width"). -/
abbrev Byte := BitVec 8

/-- A 16-bit register pair, SP, PC or bus address (R6). -/
abbrev Word := BitVec 16

end Sys2Proof
end

