-- ==== Sys2Proof/Machine/Bits.lean ====
section
/-! DEFINITION. Bit-field, byte-order and sign-extension helpers (spec 00_scope.md R8, R9). -/

namespace Sys2Proof

/-- `v[15:8]`. -/
def Word.hi (w : Word) : Byte := w.extractLsb' 8 8

/-- `v[7:0]`. -/
def Word.lo (w : Word) : Byte := w.extractLsb' 0 8

/-- `hi : lo`, the 16-bit value of two bytes (little-endian in memory, 20_memory.md R88). -/
def Word.ofBytes (hi lo : Byte) : Word := hi ++ lo

/-- `sext_16(v8)` of R9. -/
def Byte.sext (v : Byte) : Word := v.signExtend 16

/-- `zext_16(v8)` of R9. -/
def Byte.zext (v : Byte) : Word := v.zeroExtend 16

/-- `v[i]` as a Bool (R8). -/
def Byte.bit (v : Byte) (i : Nat) : Bool := v.getLsbD i

/-- `v` with bit `i` set to 1. -/
def Byte.setBit (v : Byte) (i : Nat) : Byte := v ||| (1#8 <<< i)

/-- `v` with bit `i` set to 0. -/
def Byte.clearBit (v : Byte) (i : Nat) : Byte := v &&& ~~~(1#8 <<< i)

/-- The byte whose bit `i` is `b` and whose other bits are 0. -/
def Byte.zextBool (b : Bool) (i : Nat) : Byte := (BitVec.ofBool b).zeroExtend 8 <<< i

/-- The field `v[hi:lo]` with `hi = lo + n - 1`, as an `n`-bit value (R8). -/
def Byte.field (v : Byte) (lo n : Nat) : BitVec n := v.extractLsb' lo n

end Sys2Proof
end

