-- ==== Sys2Proof/Syntax.lean ====
section
/-! DEFINITION. The instruction set as data: the operand selectors of spec 30_encoding.md R154, the instruction type `Instr` with
one constructor for every row of the opcode table (244 regular and 256 CB-prefixed, R160, R161), and the shapes of the
instruction rules R200-R431, which say of a row which rule it falls under and with which operands. -/

namespace Sys2Proof

/-- The 8-bit registers an `r` selector can name (R154); F is not a possible operand (R200). -/
inductive Reg8 where
  | b | c | d | e | h | l | a
  deriving DecidableEq, Repr

/-- The whole `r` column of R154: a register, or the byte at address HL. -/
inductive Loc8 where
  | reg (r : Reg8)
  | atHl
  deriving DecidableEq, Repr

/-- The `rr` column of R154. -/
inductive Pair16 where
  | bc | de | hl | sp
  deriving DecidableEq, Repr

/-- The `qq` column of R154. -/
inductive StackPair where
  | bc | de | hl | af
  deriving DecidableEq, Repr

/-- The `cc` column of R154. -/
inductive Cond where
  | nz | z | nc | c
  deriving DecidableEq, Repr

/-- The `alu` column of R154. -/
inductive AluOp where
  | add | adc | sub | sbc | and | xor | or | cp
  deriving DecidableEq, Repr

/-- The `rot` column of R154. -/
inductive RotOp where
  | rlc | rrc | rl | rr | sla | sra | swap | srl
  deriving DecidableEq, Repr

/-- The operand `src8` of the 8-bit ALU instructions (41_alu8.md R260). -/
inductive Src8 where
  | reg (r : Reg8)
  | atHl
  | imm (n : Byte)
  deriving DecidableEq, Repr

/-- One constructor per row of the opcode table, in the table's order. Operands in the encoding are the arguments: `n` d8,
`e` e8, `a` a8, `nn` d16, `aa` a16, and `x` the byte of STOP that is not interpreted (R152, R422). -/
inductive Instr where
  /-- `NOP` (R420) -/
  | nop
  /-- `LD BC,d16` (R220) -/
  | ldBcD16 (nn : Word)
  /-- `LD (BC),A` (R207) -/
  | ldAtBcA
  /-- `INC BC` (R321) -/
  | incBc
  /-- `INC B` (R270) -/
  | incB
  /-- `DEC B` (R272) -/
  | decB
  /-- `LD B,d8` (R203) -/
  | ldBD8 (n : Byte)
  /-- `RLCA` (R290) -/
  | rlca
  /-- `LD (a16),SP` (R222) -/
  | ldAtA16Sp (aa : Word)
  /-- `ADD HL,BC` (R320) -/
  | addHlBc
  /-- `LD A,(BC)` (R205) -/
  | ldAAtBc
  /-- `DEC BC` (R322) -/
  | decBc
  /-- `INC C` (R270) -/
  | incC
  /-- `DEC C` (R272) -/
  | decC
  /-- `LD C,d8` (R203) -/
  | ldCD8 (n : Byte)
  /-- `RRCA` (R291) -/
  | rrca
  /-- `STOP` (R422) -/
  | stop (x : Byte)
  /-- `LD DE,d16` (R220) -/
  | ldDeD16 (nn : Word)
  /-- `LD (DE),A` (R208) -/
  | ldAtDeA
  /-- `INC DE` (R321) -/
  | incDe
  /-- `INC D` (R270) -/
  | incD
  /-- `DEC D` (R272) -/
  | decD
  /-- `LD D,d8` (R203) -/
  | ldDD8 (n : Byte)
  /-- `RLA` (R292) -/
  | rla
  /-- `JR e8` (R390) -/
  | jrE8 (e : Byte)
  /-- `ADD HL,DE` (R320) -/
  | addHlDe
  /-- `LD A,(DE)` (R206) -/
  | ldAAtDe
  /-- `DEC DE` (R322) -/
  | decDe
  /-- `INC E` (R270) -/
  | incE
  /-- `DEC E` (R272) -/
  | decE
  /-- `LD E,d8` (R203) -/
  | ldED8 (n : Byte)
  /-- `RRA` (R293) -/
  | rra
  /-- `JR NZ,e8` (R391) -/
  | jrNzE8 (e : Byte)
  /-- `LD HL,d16` (R220) -/
  | ldHlD16 (nn : Word)
  /-- `LD (HL+),A` (R211) -/
  | ldAtHlIncA
  /-- `INC HL` (R321) -/
  | incHl
  /-- `INC H` (R270) -/
  | incH
  /-- `DEC H` (R272) -/
  | decH
  /-- `LD H,d8` (R203) -/
  | ldHD8 (n : Byte)
  /-- `DAA` (R280) -/
  | daa
  /-- `JR Z,e8` (R391) -/
  | jrZE8 (e : Byte)
  /-- `ADD HL,HL` (R320) -/
  | addHlHl
  /-- `LD A,(HL+)` (R209) -/
  | ldAAtHlInc
  /-- `DEC HL` (R322) -/
  | decHl
  /-- `INC L` (R270) -/
  | incL
  /-- `DEC L` (R272) -/
  | decL
  /-- `LD L,d8` (R203) -/
  | ldLD8 (n : Byte)
  /-- `CPL` (R281) -/
  | cpl
  /-- `JR NC,e8` (R391) -/
  | jrNcE8 (e : Byte)
  /-- `LD SP,d16` (R220) -/
  | ldSpD16 (nn : Word)
  /-- `LD (HL-),A` (R212) -/
  | ldAtHlDecA
  /-- `INC SP` (R321) -/
  | incSp
  /-- `INC (HL)` (R271) -/
  | incAtHl
  /-- `DEC (HL)` (R273) -/
  | decAtHl
  /-- `LD (HL),d8` (R204) -/
  | ldAtHlD8 (n : Byte)
  /-- `SCF` (R282) -/
  | scf
  /-- `JR C,e8` (R391) -/
  | jrCE8 (e : Byte)
  /-- `ADD HL,SP` (R320) -/
  | addHlSp
  /-- `LD A,(HL-)` (R210) -/
  | ldAAtHlDec
  /-- `DEC SP` (R322) -/
  | decSp
  /-- `INC A` (R270) -/
  | incA
  /-- `DEC A` (R272) -/
  | decA
  /-- `LD A,d8` (R203) -/
  | ldAD8 (n : Byte)
  /-- `CCF` (R283) -/
  | ccf
  /-- `LD B,B` (R200) -/
  | ldBB
  /-- `LD B,C` (R200) -/
  | ldBC
  /-- `LD B,D` (R200) -/
  | ldBD
  /-- `LD B,E` (R200) -/
  | ldBE
  /-- `LD B,H` (R200) -/
  | ldBH
  /-- `LD B,L` (R200) -/
  | ldBL
  /-- `LD B,(HL)` (R201) -/
  | ldBAtHl
  /-- `LD B,A` (R200) -/
  | ldBA
  /-- `LD C,B` (R200) -/
  | ldCB
  /-- `LD C,C` (R200) -/
  | ldCC
  /-- `LD C,D` (R200) -/
  | ldCD
  /-- `LD C,E` (R200) -/
  | ldCE
  /-- `LD C,H` (R200) -/
  | ldCH
  /-- `LD C,L` (R200) -/
  | ldCL
  /-- `LD C,(HL)` (R201) -/
  | ldCAtHl
  /-- `LD C,A` (R200) -/
  | ldCA
  /-- `LD D,B` (R200) -/
  | ldDB
  /-- `LD D,C` (R200) -/
  | ldDC
  /-- `LD D,D` (R200) -/
  | ldDD
  /-- `LD D,E` (R200) -/
  | ldDE
  /-- `LD D,H` (R200) -/
  | ldDH
  /-- `LD D,L` (R200) -/
  | ldDL
  /-- `LD D,(HL)` (R201) -/
  | ldDAtHl
  /-- `LD D,A` (R200) -/
  | ldDA
  /-- `LD E,B` (R200) -/
  | ldEB
  /-- `LD E,C` (R200) -/
  | ldEC
  /-- `LD E,D` (R200) -/
  | ldED
  /-- `LD E,E` (R200) -/
  | ldEE
  /-- `LD E,H` (R200) -/
  | ldEH
  /-- `LD E,L` (R200) -/
  | ldEL
  /-- `LD E,(HL)` (R201) -/
  | ldEAtHl
  /-- `LD E,A` (R200) -/
  | ldEA
  /-- `LD H,B` (R200) -/
  | ldHB
  /-- `LD H,C` (R200) -/
  | ldHC
  /-- `LD H,D` (R200) -/
  | ldHD
  /-- `LD H,E` (R200) -/
  | ldHE
  /-- `LD H,H` (R200) -/
  | ldHH
  /-- `LD H,L` (R200) -/
  | ldHL
  /-- `LD H,(HL)` (R201) -/
  | ldHAtHl
  /-- `LD H,A` (R200) -/
  | ldHA
  /-- `LD L,B` (R200) -/
  | ldLB
  /-- `LD L,C` (R200) -/
  | ldLC
  /-- `LD L,D` (R200) -/
  | ldLD
  /-- `LD L,E` (R200) -/
  | ldLE
  /-- `LD L,H` (R200) -/
  | ldLH
  /-- `LD L,L` (R200) -/
  | ldLL
  /-- `LD L,(HL)` (R201) -/
  | ldLAtHl
  /-- `LD L,A` (R200) -/
  | ldLA
  /-- `LD (HL),B` (R202) -/
  | ldAtHlB
  /-- `LD (HL),C` (R202) -/
  | ldAtHlC
  /-- `LD (HL),D` (R202) -/
  | ldAtHlD
  /-- `LD (HL),E` (R202) -/
  | ldAtHlE
  /-- `LD (HL),H` (R202) -/
  | ldAtHlH
  /-- `LD (HL),L` (R202) -/
  | ldAtHlL
  /-- `HALT` (R421) -/
  | halt
  /-- `LD (HL),A` (R202) -/
  | ldAtHlA
  /-- `LD A,B` (R200) -/
  | ldAB
  /-- `LD A,C` (R200) -/
  | ldAC
  /-- `LD A,D` (R200) -/
  | ldAD
  /-- `LD A,E` (R200) -/
  | ldAE
  /-- `LD A,H` (R200) -/
  | ldAH
  /-- `LD A,L` (R200) -/
  | ldAL
  /-- `LD A,(HL)` (R201) -/
  | ldAAtHl
  /-- `LD A,A` (R200) -/
  | ldAA
  /-- `ADD A,B` (R261) -/
  | addAB
  /-- `ADD A,C` (R261) -/
  | addAC
  /-- `ADD A,D` (R261) -/
  | addAD
  /-- `ADD A,E` (R261) -/
  | addAE
  /-- `ADD A,H` (R261) -/
  | addAH
  /-- `ADD A,L` (R261) -/
  | addAL
  /-- `ADD A,(HL)` (R261) -/
  | addAAtHl
  /-- `ADD A,A` (R261) -/
  | addAA
  /-- `ADC A,B` (R262) -/
  | adcAB
  /-- `ADC A,C` (R262) -/
  | adcAC
  /-- `ADC A,D` (R262) -/
  | adcAD
  /-- `ADC A,E` (R262) -/
  | adcAE
  /-- `ADC A,H` (R262) -/
  | adcAH
  /-- `ADC A,L` (R262) -/
  | adcAL
  /-- `ADC A,(HL)` (R262) -/
  | adcAAtHl
  /-- `ADC A,A` (R262) -/
  | adcAA
  /-- `SUB B` (R263) -/
  | subB
  /-- `SUB C` (R263) -/
  | subC
  /-- `SUB D` (R263) -/
  | subD
  /-- `SUB E` (R263) -/
  | subE
  /-- `SUB H` (R263) -/
  | subH
  /-- `SUB L` (R263) -/
  | subL
  /-- `SUB (HL)` (R263) -/
  | subAtHl
  /-- `SUB A` (R263) -/
  | subA
  /-- `SBC A,B` (R264) -/
  | sbcAB
  /-- `SBC A,C` (R264) -/
  | sbcAC
  /-- `SBC A,D` (R264) -/
  | sbcAD
  /-- `SBC A,E` (R264) -/
  | sbcAE
  /-- `SBC A,H` (R264) -/
  | sbcAH
  /-- `SBC A,L` (R264) -/
  | sbcAL
  /-- `SBC A,(HL)` (R264) -/
  | sbcAAtHl
  /-- `SBC A,A` (R264) -/
  | sbcAA
  /-- `AND B` (R265) -/
  | andB
  /-- `AND C` (R265) -/
  | andC
  /-- `AND D` (R265) -/
  | andD
  /-- `AND E` (R265) -/
  | andE
  /-- `AND H` (R265) -/
  | andH
  /-- `AND L` (R265) -/
  | andL
  /-- `AND (HL)` (R265) -/
  | andAtHl
  /-- `AND A` (R265) -/
  | andA
  /-- `XOR B` (R266) -/
  | xorB
  /-- `XOR C` (R266) -/
  | xorC
  /-- `XOR D` (R266) -/
  | xorD
  /-- `XOR E` (R266) -/
  | xorE
  /-- `XOR H` (R266) -/
  | xorH
  /-- `XOR L` (R266) -/
  | xorL
  /-- `XOR (HL)` (R266) -/
  | xorAtHl
  /-- `XOR A` (R266) -/
  | xorA
  /-- `OR B` (R267) -/
  | orB
  /-- `OR C` (R267) -/
  | orC
  /-- `OR D` (R267) -/
  | orD
  /-- `OR E` (R267) -/
  | orE
  /-- `OR H` (R267) -/
  | orH
  /-- `OR L` (R267) -/
  | orL
  /-- `OR (HL)` (R267) -/
  | orAtHl
  /-- `OR A` (R267) -/
  | orA
  /-- `CP B` (R268) -/
  | cpB
  /-- `CP C` (R268) -/
  | cpC
  /-- `CP D` (R268) -/
  | cpD
  /-- `CP E` (R268) -/
  | cpE
  /-- `CP H` (R268) -/
  | cpH
  /-- `CP L` (R268) -/
  | cpL
  /-- `CP (HL)` (R268) -/
  | cpAtHl
  /-- `CP A` (R268) -/
  | cpA
  /-- `RET NZ` (R395) -/
  | retNz
  /-- `POP BC` (R243) -/
  | popBc
  /-- `JP NZ,a16` (R382) -/
  | jpNzA16 (aa : Word)
  /-- `JP a16` (R381) -/
  | jpA16 (aa : Word)
  /-- `CALL NZ,a16` (R393) -/
  | callNzA16 (aa : Word)
  /-- `PUSH BC` (R242) -/
  | pushBc
  /-- `ADD A,d8` (R261) -/
  | addAD8 (n : Byte)
  /-- `RST 0x00` (R396) -/
  | rst00
  /-- `RET Z` (R395) -/
  | retZ
  /-- `RET` (R394) -/
  | ret
  /-- `JP Z,a16` (R382) -/
  | jpZA16 (aa : Word)
  /-- `CALL Z,a16` (R393) -/
  | callZA16 (aa : Word)
  /-- `CALL a16` (R392) -/
  | callA16 (aa : Word)
  /-- `ADC A,d8` (R262) -/
  | adcAD8 (n : Byte)
  /-- `RST 0x08` (R396) -/
  | rst08
  /-- `RET NC` (R395) -/
  | retNc
  /-- `POP DE` (R243) -/
  | popDe
  /-- `JP NC,a16` (R382) -/
  | jpNcA16 (aa : Word)
  /-- `CALL NC,a16` (R393) -/
  | callNcA16 (aa : Word)
  /-- `PUSH DE` (R242) -/
  | pushDe
  /-- `SUB d8` (R263) -/
  | subD8 (n : Byte)
  /-- `RST 0x10` (R396) -/
  | rst10
  /-- `RET C` (R395) -/
  | retC
  /-- `RETI` (R397) -/
  | reti
  /-- `JP C,a16` (R382) -/
  | jpCA16 (aa : Word)
  /-- `CALL C,a16` (R393) -/
  | callCA16 (aa : Word)
  /-- `SBC A,d8` (R264) -/
  | sbcAD8 (n : Byte)
  /-- `RST 0x18` (R396) -/
  | rst18
  /-- `LDH (a8),A` (R216) -/
  | ldhAtA8A (a : Byte)
  /-- `POP HL` (R243) -/
  | popHl
  /-- `LD (C),A` (R218) -/
  | ldAtCA
  /-- `PUSH HL` (R242) -/
  | pushHl
  /-- `AND d8` (R265) -/
  | andD8 (n : Byte)
  /-- `RST 0x20` (R396) -/
  | rst20
  /-- `ADD SP,e8` (R325) -/
  | addSpE8 (e : Byte)
  /-- `JP HL` (R383) -/
  | jpHl
  /-- `LD (a16),A` (R214) -/
  | ldAtA16A (aa : Word)
  /-- `XOR d8` (R266) -/
  | xorD8 (n : Byte)
  /-- `RST 0x28` (R396) -/
  | rst28
  /-- `LDH A,(a8)` (R215) -/
  | ldhAAtA8 (a : Byte)
  /-- `POP AF` (R243) -/
  | popAf
  /-- `LD A,(C)` (R217) -/
  | ldAAtC
  /-- `DI` (R430) -/
  | di
  /-- `PUSH AF` (R242) -/
  | pushAf
  /-- `OR d8` (R267) -/
  | orD8 (n : Byte)
  /-- `RST 0x30` (R396) -/
  | rst30
  /-- `LD HL,SP+e8` (R326) -/
  | ldHlSpE8 (e : Byte)
  /-- `LD SP,HL` (R221) -/
  | ldSpHl
  /-- `LD A,(a16)` (R213) -/
  | ldAAtA16 (aa : Word)
  /-- `EI` (R431) -/
  | ei
  /-- `CP d8` (R268) -/
  | cpD8 (n : Byte)
  /-- `RST 0x38` (R396) -/
  | rst38
  /-- `RLC B` (R340) -/
  | rlcB
  /-- `RLC C` (R340) -/
  | rlcC
  /-- `RLC D` (R340) -/
  | rlcD
  /-- `RLC E` (R340) -/
  | rlcE
  /-- `RLC H` (R340) -/
  | rlcH
  /-- `RLC L` (R340) -/
  | rlcL
  /-- `RLC (HL)` (R340) -/
  | rlcAtHl
  /-- `RLC A` (R340) -/
  | rlcA
  /-- `RRC B` (R341) -/
  | rrcB
  /-- `RRC C` (R341) -/
  | rrcC
  /-- `RRC D` (R341) -/
  | rrcD
  /-- `RRC E` (R341) -/
  | rrcE
  /-- `RRC H` (R341) -/
  | rrcH
  /-- `RRC L` (R341) -/
  | rrcL
  /-- `RRC (HL)` (R341) -/
  | rrcAtHl
  /-- `RRC A` (R341) -/
  | rrcA
  /-- `RL B` (R342) -/
  | rlB
  /-- `RL C` (R342) -/
  | rlC
  /-- `RL D` (R342) -/
  | rlD
  /-- `RL E` (R342) -/
  | rlE
  /-- `RL H` (R342) -/
  | rlH
  /-- `RL L` (R342) -/
  | rlL
  /-- `RL (HL)` (R342) -/
  | rlAtHl
  /-- `RL A` (R342) -/
  | rlA
  /-- `RR B` (R343) -/
  | rrB
  /-- `RR C` (R343) -/
  | rrC
  /-- `RR D` (R343) -/
  | rrD
  /-- `RR E` (R343) -/
  | rrE
  /-- `RR H` (R343) -/
  | rrH
  /-- `RR L` (R343) -/
  | rrL
  /-- `RR (HL)` (R343) -/
  | rrAtHl
  /-- `RR A` (R343) -/
  | rrA
  /-- `SLA B` (R344) -/
  | slaB
  /-- `SLA C` (R344) -/
  | slaC
  /-- `SLA D` (R344) -/
  | slaD
  /-- `SLA E` (R344) -/
  | slaE
  /-- `SLA H` (R344) -/
  | slaH
  /-- `SLA L` (R344) -/
  | slaL
  /-- `SLA (HL)` (R344) -/
  | slaAtHl
  /-- `SLA A` (R344) -/
  | slaA
  /-- `SRA B` (R345) -/
  | sraB
  /-- `SRA C` (R345) -/
  | sraC
  /-- `SRA D` (R345) -/
  | sraD
  /-- `SRA E` (R345) -/
  | sraE
  /-- `SRA H` (R345) -/
  | sraH
  /-- `SRA L` (R345) -/
  | sraL
  /-- `SRA (HL)` (R345) -/
  | sraAtHl
  /-- `SRA A` (R345) -/
  | sraA
  /-- `SWAP B` (R346) -/
  | swapB
  /-- `SWAP C` (R346) -/
  | swapC
  /-- `SWAP D` (R346) -/
  | swapD
  /-- `SWAP E` (R346) -/
  | swapE
  /-- `SWAP H` (R346) -/
  | swapH
  /-- `SWAP L` (R346) -/
  | swapL
  /-- `SWAP (HL)` (R346) -/
  | swapAtHl
  /-- `SWAP A` (R346) -/
  | swapA
  /-- `SRL B` (R347) -/
  | srlB
  /-- `SRL C` (R347) -/
  | srlC
  /-- `SRL D` (R347) -/
  | srlD
  /-- `SRL E` (R347) -/
  | srlE
  /-- `SRL H` (R347) -/
  | srlH
  /-- `SRL L` (R347) -/
  | srlL
  /-- `SRL (HL)` (R347) -/
  | srlAtHl
  /-- `SRL A` (R347) -/
  | srlA
  /-- `BIT 0,B` (R350) -/
  | bit0B
  /-- `BIT 0,C` (R350) -/
  | bit0C
  /-- `BIT 0,D` (R350) -/
  | bit0D
  /-- `BIT 0,E` (R350) -/
  | bit0E
  /-- `BIT 0,H` (R350) -/
  | bit0H
  /-- `BIT 0,L` (R350) -/
  | bit0L
  /-- `BIT 0,(HL)` (R350) -/
  | bit0AtHl
  /-- `BIT 0,A` (R350) -/
  | bit0A
  /-- `BIT 1,B` (R350) -/
  | bit1B
  /-- `BIT 1,C` (R350) -/
  | bit1C
  /-- `BIT 1,D` (R350) -/
  | bit1D
  /-- `BIT 1,E` (R350) -/
  | bit1E
  /-- `BIT 1,H` (R350) -/
  | bit1H
  /-- `BIT 1,L` (R350) -/
  | bit1L
  /-- `BIT 1,(HL)` (R350) -/
  | bit1AtHl
  /-- `BIT 1,A` (R350) -/
  | bit1A
  /-- `BIT 2,B` (R350) -/
  | bit2B
  /-- `BIT 2,C` (R350) -/
  | bit2C
  /-- `BIT 2,D` (R350) -/
  | bit2D
  /-- `BIT 2,E` (R350) -/
  | bit2E
  /-- `BIT 2,H` (R350) -/
  | bit2H
  /-- `BIT 2,L` (R350) -/
  | bit2L
  /-- `BIT 2,(HL)` (R350) -/
  | bit2AtHl
  /-- `BIT 2,A` (R350) -/
  | bit2A
  /-- `BIT 3,B` (R350) -/
  | bit3B
  /-- `BIT 3,C` (R350) -/
  | bit3C
  /-- `BIT 3,D` (R350) -/
  | bit3D
  /-- `BIT 3,E` (R350) -/
  | bit3E
  /-- `BIT 3,H` (R350) -/
  | bit3H
  /-- `BIT 3,L` (R350) -/
  | bit3L
  /-- `BIT 3,(HL)` (R350) -/
  | bit3AtHl
  /-- `BIT 3,A` (R350) -/
  | bit3A
  /-- `BIT 4,B` (R350) -/
  | bit4B
  /-- `BIT 4,C` (R350) -/
  | bit4C
  /-- `BIT 4,D` (R350) -/
  | bit4D
  /-- `BIT 4,E` (R350) -/
  | bit4E
  /-- `BIT 4,H` (R350) -/
  | bit4H
  /-- `BIT 4,L` (R350) -/
  | bit4L
  /-- `BIT 4,(HL)` (R350) -/
  | bit4AtHl
  /-- `BIT 4,A` (R350) -/
  | bit4A
  /-- `BIT 5,B` (R350) -/
  | bit5B
  /-- `BIT 5,C` (R350) -/
  | bit5C
  /-- `BIT 5,D` (R350) -/
  | bit5D
  /-- `BIT 5,E` (R350) -/
  | bit5E
  /-- `BIT 5,H` (R350) -/
  | bit5H
  /-- `BIT 5,L` (R350) -/
  | bit5L
  /-- `BIT 5,(HL)` (R350) -/
  | bit5AtHl
  /-- `BIT 5,A` (R350) -/
  | bit5A
  /-- `BIT 6,B` (R350) -/
  | bit6B
  /-- `BIT 6,C` (R350) -/
  | bit6C
  /-- `BIT 6,D` (R350) -/
  | bit6D
  /-- `BIT 6,E` (R350) -/
  | bit6E
  /-- `BIT 6,H` (R350) -/
  | bit6H
  /-- `BIT 6,L` (R350) -/
  | bit6L
  /-- `BIT 6,(HL)` (R350) -/
  | bit6AtHl
  /-- `BIT 6,A` (R350) -/
  | bit6A
  /-- `BIT 7,B` (R350) -/
  | bit7B
  /-- `BIT 7,C` (R350) -/
  | bit7C
  /-- `BIT 7,D` (R350) -/
  | bit7D
  /-- `BIT 7,E` (R350) -/
  | bit7E
  /-- `BIT 7,H` (R350) -/
  | bit7H
  /-- `BIT 7,L` (R350) -/
  | bit7L
  /-- `BIT 7,(HL)` (R350) -/
  | bit7AtHl
  /-- `BIT 7,A` (R350) -/
  | bit7A
  /-- `RES 0,B` (R351) -/
  | res0B
  /-- `RES 0,C` (R351) -/
  | res0C
  /-- `RES 0,D` (R351) -/
  | res0D
  /-- `RES 0,E` (R351) -/
  | res0E
  /-- `RES 0,H` (R351) -/
  | res0H
  /-- `RES 0,L` (R351) -/
  | res0L
  /-- `RES 0,(HL)` (R351) -/
  | res0AtHl
  /-- `RES 0,A` (R351) -/
  | res0A
  /-- `RES 1,B` (R351) -/
  | res1B
  /-- `RES 1,C` (R351) -/
  | res1C
  /-- `RES 1,D` (R351) -/
  | res1D
  /-- `RES 1,E` (R351) -/
  | res1E
  /-- `RES 1,H` (R351) -/
  | res1H
  /-- `RES 1,L` (R351) -/
  | res1L
  /-- `RES 1,(HL)` (R351) -/
  | res1AtHl
  /-- `RES 1,A` (R351) -/
  | res1A
  /-- `RES 2,B` (R351) -/
  | res2B
  /-- `RES 2,C` (R351) -/
  | res2C
  /-- `RES 2,D` (R351) -/
  | res2D
  /-- `RES 2,E` (R351) -/
  | res2E
  /-- `RES 2,H` (R351) -/
  | res2H
  /-- `RES 2,L` (R351) -/
  | res2L
  /-- `RES 2,(HL)` (R351) -/
  | res2AtHl
  /-- `RES 2,A` (R351) -/
  | res2A
  /-- `RES 3,B` (R351) -/
  | res3B
  /-- `RES 3,C` (R351) -/
  | res3C
  /-- `RES 3,D` (R351) -/
  | res3D
  /-- `RES 3,E` (R351) -/
  | res3E
  /-- `RES 3,H` (R351) -/
  | res3H
  /-- `RES 3,L` (R351) -/
  | res3L
  /-- `RES 3,(HL)` (R351) -/
  | res3AtHl
  /-- `RES 3,A` (R351) -/
  | res3A
  /-- `RES 4,B` (R351) -/
  | res4B
  /-- `RES 4,C` (R351) -/
  | res4C
  /-- `RES 4,D` (R351) -/
  | res4D
  /-- `RES 4,E` (R351) -/
  | res4E
  /-- `RES 4,H` (R351) -/
  | res4H
  /-- `RES 4,L` (R351) -/
  | res4L
  /-- `RES 4,(HL)` (R351) -/
  | res4AtHl
  /-- `RES 4,A` (R351) -/
  | res4A
  /-- `RES 5,B` (R351) -/
  | res5B
  /-- `RES 5,C` (R351) -/
  | res5C
  /-- `RES 5,D` (R351) -/
  | res5D
  /-- `RES 5,E` (R351) -/
  | res5E
  /-- `RES 5,H` (R351) -/
  | res5H
  /-- `RES 5,L` (R351) -/
  | res5L
  /-- `RES 5,(HL)` (R351) -/
  | res5AtHl
  /-- `RES 5,A` (R351) -/
  | res5A
  /-- `RES 6,B` (R351) -/
  | res6B
  /-- `RES 6,C` (R351) -/
  | res6C
  /-- `RES 6,D` (R351) -/
  | res6D
  /-- `RES 6,E` (R351) -/
  | res6E
  /-- `RES 6,H` (R351) -/
  | res6H
  /-- `RES 6,L` (R351) -/
  | res6L
  /-- `RES 6,(HL)` (R351) -/
  | res6AtHl
  /-- `RES 6,A` (R351) -/
  | res6A
  /-- `RES 7,B` (R351) -/
  | res7B
  /-- `RES 7,C` (R351) -/
  | res7C
  /-- `RES 7,D` (R351) -/
  | res7D
  /-- `RES 7,E` (R351) -/
  | res7E
  /-- `RES 7,H` (R351) -/
  | res7H
  /-- `RES 7,L` (R351) -/
  | res7L
  /-- `RES 7,(HL)` (R351) -/
  | res7AtHl
  /-- `RES 7,A` (R351) -/
  | res7A
  /-- `SET 0,B` (R352) -/
  | set0B
  /-- `SET 0,C` (R352) -/
  | set0C
  /-- `SET 0,D` (R352) -/
  | set0D
  /-- `SET 0,E` (R352) -/
  | set0E
  /-- `SET 0,H` (R352) -/
  | set0H
  /-- `SET 0,L` (R352) -/
  | set0L
  /-- `SET 0,(HL)` (R352) -/
  | set0AtHl
  /-- `SET 0,A` (R352) -/
  | set0A
  /-- `SET 1,B` (R352) -/
  | set1B
  /-- `SET 1,C` (R352) -/
  | set1C
  /-- `SET 1,D` (R352) -/
  | set1D
  /-- `SET 1,E` (R352) -/
  | set1E
  /-- `SET 1,H` (R352) -/
  | set1H
  /-- `SET 1,L` (R352) -/
  | set1L
  /-- `SET 1,(HL)` (R352) -/
  | set1AtHl
  /-- `SET 1,A` (R352) -/
  | set1A
  /-- `SET 2,B` (R352) -/
  | set2B
  /-- `SET 2,C` (R352) -/
  | set2C
  /-- `SET 2,D` (R352) -/
  | set2D
  /-- `SET 2,E` (R352) -/
  | set2E
  /-- `SET 2,H` (R352) -/
  | set2H
  /-- `SET 2,L` (R352) -/
  | set2L
  /-- `SET 2,(HL)` (R352) -/
  | set2AtHl
  /-- `SET 2,A` (R352) -/
  | set2A
  /-- `SET 3,B` (R352) -/
  | set3B
  /-- `SET 3,C` (R352) -/
  | set3C
  /-- `SET 3,D` (R352) -/
  | set3D
  /-- `SET 3,E` (R352) -/
  | set3E
  /-- `SET 3,H` (R352) -/
  | set3H
  /-- `SET 3,L` (R352) -/
  | set3L
  /-- `SET 3,(HL)` (R352) -/
  | set3AtHl
  /-- `SET 3,A` (R352) -/
  | set3A
  /-- `SET 4,B` (R352) -/
  | set4B
  /-- `SET 4,C` (R352) -/
  | set4C
  /-- `SET 4,D` (R352) -/
  | set4D
  /-- `SET 4,E` (R352) -/
  | set4E
  /-- `SET 4,H` (R352) -/
  | set4H
  /-- `SET 4,L` (R352) -/
  | set4L
  /-- `SET 4,(HL)` (R352) -/
  | set4AtHl
  /-- `SET 4,A` (R352) -/
  | set4A
  /-- `SET 5,B` (R352) -/
  | set5B
  /-- `SET 5,C` (R352) -/
  | set5C
  /-- `SET 5,D` (R352) -/
  | set5D
  /-- `SET 5,E` (R352) -/
  | set5E
  /-- `SET 5,H` (R352) -/
  | set5H
  /-- `SET 5,L` (R352) -/
  | set5L
  /-- `SET 5,(HL)` (R352) -/
  | set5AtHl
  /-- `SET 5,A` (R352) -/
  | set5A
  /-- `SET 6,B` (R352) -/
  | set6B
  /-- `SET 6,C` (R352) -/
  | set6C
  /-- `SET 6,D` (R352) -/
  | set6D
  /-- `SET 6,E` (R352) -/
  | set6E
  /-- `SET 6,H` (R352) -/
  | set6H
  /-- `SET 6,L` (R352) -/
  | set6L
  /-- `SET 6,(HL)` (R352) -/
  | set6AtHl
  /-- `SET 6,A` (R352) -/
  | set6A
  /-- `SET 7,B` (R352) -/
  | set7B
  /-- `SET 7,C` (R352) -/
  | set7C
  /-- `SET 7,D` (R352) -/
  | set7D
  /-- `SET 7,E` (R352) -/
  | set7E
  /-- `SET 7,H` (R352) -/
  | set7H
  /-- `SET 7,L` (R352) -/
  | set7L
  /-- `SET 7,(HL)` (R352) -/
  | set7AtHl
  /-- `SET 7,A` (R352) -/
  | set7A
  deriving DecidableEq, Repr

/-- The instruction rules with their operands: which rule of 40_load.md to 45_system.md a row falls under. -/
inductive Shape where
  /-- R200 -/
  | ldRegReg (dst src : Reg8)
  /-- R201 -/
  | ldRegHl (dst : Reg8)
  /-- R202 -/
  | ldHlReg (src : Reg8)
  /-- R203 -/
  | ldRegImm (dst : Reg8) (n : Byte)
  /-- R204 -/
  | ldHlImm (n : Byte)
  /-- R205 -/
  | ldABc
  /-- R206 -/
  | ldADe
  /-- R207 -/
  | ldBcA
  /-- R208 -/
  | ldDeA
  /-- R209 -/
  | ldAHlInc
  /-- R210 -/
  | ldAHlDec
  /-- R211 -/
  | ldHlIncA
  /-- R212 -/
  | ldHlDecA
  /-- R213 -/
  | ldAAbs (aa : Word)
  /-- R214 -/
  | ldAbsA (aa : Word)
  /-- R215 -/
  | ldhA (a : Byte)
  /-- R216 -/
  | ldhStore (a : Byte)
  /-- R217 -/
  | ldAHighC
  /-- R218 -/
  | ldHighCA
  /-- R220 -/
  | ldPairImm (p : Pair16) (nn : Word)
  /-- R221 -/
  | ldSpHl
  /-- R222 -/
  | ldAbsSp (aa : Word)
  /-- R242 -/
  | push (q : StackPair)
  /-- R243 -/
  | pop (q : StackPair)
  /-- R261-R268 -/
  | alu (op : AluOp) (src : Src8)
  /-- R270 -/
  | incReg (r : Reg8)
  /-- R271 -/
  | incHl
  /-- R272 -/
  | decReg (r : Reg8)
  /-- R273 -/
  | decHl
  /-- R280 -/
  | daa
  /-- R281 -/
  | cpl
  /-- R282 -/
  | scf
  /-- R283 -/
  | ccf
  /-- R290 -/
  | rlca
  /-- R291 -/
  | rrca
  /-- R292 -/
  | rla
  /-- R293 -/
  | rra
  /-- R320 -/
  | addHl (p : Pair16)
  /-- R321 -/
  | incPair (p : Pair16)
  /-- R322 -/
  | decPair (p : Pair16)
  /-- R325 -/
  | addSp (e : Byte)
  /-- R326 -/
  | ldHlSp (e : Byte)
  /-- R340-R347 -/
  | rot (op : RotOp) (l : Loc8)
  /-- R350 -/
  | bit (b : BitVec 3) (l : Loc8)
  /-- R351 -/
  | res (b : BitVec 3) (l : Loc8)
  /-- R352 -/
  | set (b : BitVec 3) (l : Loc8)
  /-- R381 -/
  | jp (aa : Word)
  /-- R382 -/
  | jpCond (cc : Cond) (aa : Word)
  /-- R383 -/
  | jpHl
  /-- R390 -/
  | jr (e : Byte)
  /-- R391 -/
  | jrCond (cc : Cond) (e : Byte)
  /-- R392 -/
  | call (aa : Word)
  /-- R393 -/
  | callCond (cc : Cond) (aa : Word)
  /-- R394 -/
  | ret
  /-- R395 -/
  | retCond (cc : Cond)
  /-- R396 -/
  | rst (y : BitVec 3)
  /-- R397 -/
  | reti
  /-- R420 -/
  | nop
  /-- R421 -/
  | halt
  /-- R422 -/
  | stop (x : Byte)
  /-- R430 -/
  | di
  /-- R431 -/
  | ei
  deriving DecidableEq, Repr

end Sys2Proof
end

