-- ==== Sys2Proof/Decode.lean ====
section
/-! DEFINITION. Decoding and encoding (spec 30_encoding.md). The decoder follows the two opcode tables of R160 and R161 cell by
cell; the encoder is written from the fields and selector codes of R153, R154 and the encodings of the instruction rules, so
the two are independent readings of the spec. -/

namespace Sys2Proof

/-! ## The opcode tables (R150, R160, R161) -/

/-- One cell of the regular table: an instruction without operand bytes, with one, with two (low byte first, R156), the
prefix 0xCB, or no descriptor (R162). -/
inductive Entry where
  | implied (i : Instr)
  | byte (f : Byte → Instr)
  | word (f : Word → Instr)
  | prefixCb
  | noDescriptor

/-- Row 0x of R160. -/
def regularRow0 : List Entry :=
  [.implied .nop, .word .ldBcD16, .implied .ldAtBcA, .implied .incBc,
   .implied .incB, .implied .decB, .byte .ldBD8, .implied .rlca,
   .word .ldAtA16Sp, .implied .addHlBc, .implied .ldAAtBc, .implied .decBc,
   .implied .incC, .implied .decC, .byte .ldCD8, .implied .rrca]

/-- Row 1x of R160. -/
def regularRow1 : List Entry :=
  [.byte .stop, .word .ldDeD16, .implied .ldAtDeA, .implied .incDe,
   .implied .incD, .implied .decD, .byte .ldDD8, .implied .rla,
   .byte .jrE8, .implied .addHlDe, .implied .ldAAtDe, .implied .decDe,
   .implied .incE, .implied .decE, .byte .ldED8, .implied .rra]

/-- Row 2x of R160. -/
def regularRow2 : List Entry :=
  [.byte .jrNzE8, .word .ldHlD16, .implied .ldAtHlIncA, .implied .incHl,
   .implied .incH, .implied .decH, .byte .ldHD8, .implied .daa,
   .byte .jrZE8, .implied .addHlHl, .implied .ldAAtHlInc, .implied .decHl,
   .implied .incL, .implied .decL, .byte .ldLD8, .implied .cpl]

/-- Row 3x of R160. -/
def regularRow3 : List Entry :=
  [.byte .jrNcE8, .word .ldSpD16, .implied .ldAtHlDecA, .implied .incSp,
   .implied .incAtHl, .implied .decAtHl, .byte .ldAtHlD8, .implied .scf,
   .byte .jrCE8, .implied .addHlSp, .implied .ldAAtHlDec, .implied .decSp,
   .implied .incA, .implied .decA, .byte .ldAD8, .implied .ccf]

/-- Row 4x of R160. -/
def regularRow4 : List Entry :=
  [.implied .ldBB, .implied .ldBC, .implied .ldBD, .implied .ldBE,
   .implied .ldBH, .implied .ldBL, .implied .ldBAtHl, .implied .ldBA,
   .implied .ldCB, .implied .ldCC, .implied .ldCD, .implied .ldCE,
   .implied .ldCH, .implied .ldCL, .implied .ldCAtHl, .implied .ldCA]

/-- Row 5x of R160. -/
def regularRow5 : List Entry :=
  [.implied .ldDB, .implied .ldDC, .implied .ldDD, .implied .ldDE,
   .implied .ldDH, .implied .ldDL, .implied .ldDAtHl, .implied .ldDA,
   .implied .ldEB, .implied .ldEC, .implied .ldED, .implied .ldEE,
   .implied .ldEH, .implied .ldEL, .implied .ldEAtHl, .implied .ldEA]

/-- Row 6x of R160. -/
def regularRow6 : List Entry :=
  [.implied .ldHB, .implied .ldHC, .implied .ldHD, .implied .ldHE,
   .implied .ldHH, .implied .ldHL, .implied .ldHAtHl, .implied .ldHA,
   .implied .ldLB, .implied .ldLC, .implied .ldLD, .implied .ldLE,
   .implied .ldLH, .implied .ldLL, .implied .ldLAtHl, .implied .ldLA]

/-- Row 7x of R160. -/
def regularRow7 : List Entry :=
  [.implied .ldAtHlB, .implied .ldAtHlC, .implied .ldAtHlD, .implied .ldAtHlE,
   .implied .ldAtHlH, .implied .ldAtHlL, .implied .halt, .implied .ldAtHlA,
   .implied .ldAB, .implied .ldAC, .implied .ldAD, .implied .ldAE,
   .implied .ldAH, .implied .ldAL, .implied .ldAAtHl, .implied .ldAA]

/-- Row 8x of R160. -/
def regularRow8 : List Entry :=
  [.implied .addAB, .implied .addAC, .implied .addAD, .implied .addAE,
   .implied .addAH, .implied .addAL, .implied .addAAtHl, .implied .addAA,
   .implied .adcAB, .implied .adcAC, .implied .adcAD, .implied .adcAE,
   .implied .adcAH, .implied .adcAL, .implied .adcAAtHl, .implied .adcAA]

/-- Row 9x of R160. -/
def regularRow9 : List Entry :=
  [.implied .subB, .implied .subC, .implied .subD, .implied .subE,
   .implied .subH, .implied .subL, .implied .subAtHl, .implied .subA,
   .implied .sbcAB, .implied .sbcAC, .implied .sbcAD, .implied .sbcAE,
   .implied .sbcAH, .implied .sbcAL, .implied .sbcAAtHl, .implied .sbcAA]

/-- Row Ax of R160. -/
def regularRowA : List Entry :=
  [.implied .andB, .implied .andC, .implied .andD, .implied .andE,
   .implied .andH, .implied .andL, .implied .andAtHl, .implied .andA,
   .implied .xorB, .implied .xorC, .implied .xorD, .implied .xorE,
   .implied .xorH, .implied .xorL, .implied .xorAtHl, .implied .xorA]

/-- Row Bx of R160. -/
def regularRowB : List Entry :=
  [.implied .orB, .implied .orC, .implied .orD, .implied .orE,
   .implied .orH, .implied .orL, .implied .orAtHl, .implied .orA,
   .implied .cpB, .implied .cpC, .implied .cpD, .implied .cpE,
   .implied .cpH, .implied .cpL, .implied .cpAtHl, .implied .cpA]

/-- Row Cx of R160. -/
def regularRowC : List Entry :=
  [.implied .retNz, .implied .popBc, .word .jpNzA16, .word .jpA16,
   .word .callNzA16, .implied .pushBc, .byte .addAD8, .implied .rst00,
   .implied .retZ, .implied .ret, .word .jpZA16, .prefixCb,
   .word .callZA16, .word .callA16, .byte .adcAD8, .implied .rst08]

/-- Row Dx of R160. -/
def regularRowD : List Entry :=
  [.implied .retNc, .implied .popDe, .word .jpNcA16, .noDescriptor,
   .word .callNcA16, .implied .pushDe, .byte .subD8, .implied .rst10,
   .implied .retC, .implied .reti, .word .jpCA16, .noDescriptor,
   .word .callCA16, .noDescriptor, .byte .sbcAD8, .implied .rst18]

/-- Row Ex of R160. -/
def regularRowE : List Entry :=
  [.byte .ldhAtA8A, .implied .popHl, .implied .ldAtCA, .noDescriptor,
   .noDescriptor, .implied .pushHl, .byte .andD8, .implied .rst20,
   .byte .addSpE8, .implied .jpHl, .word .ldAtA16A, .noDescriptor,
   .noDescriptor, .noDescriptor, .byte .xorD8, .implied .rst28]

/-- Row Fx of R160. -/
def regularRowF : List Entry :=
  [.byte .ldhAAtA8, .implied .popAf, .implied .ldAAtC, .implied .di,
   .noDescriptor, .implied .pushAf, .byte .orD8, .implied .rst30,
   .byte .ldHlSpE8, .implied .ldSpHl, .word .ldAAtA16, .implied .ei,
   .noDescriptor, .noDescriptor, .byte .cpD8, .implied .rst38]

/-- The regular table of R160, by high nibble. -/
def regularTable : List (List Entry) :=
  [regularRow0, regularRow1, regularRow2, regularRow3, regularRow4, regularRow5, regularRow6, regularRow7] ++
  [regularRow8, regularRow9, regularRowA, regularRowB, regularRowC, regularRowD, regularRowE, regularRowF]

/-- Row 0x of the CB table (R161). -/
def cbRow0 : List Instr :=
  [.rlcB, .rlcC, .rlcD, .rlcE,
   .rlcH, .rlcL, .rlcAtHl, .rlcA,
   .rrcB, .rrcC, .rrcD, .rrcE,
   .rrcH, .rrcL, .rrcAtHl, .rrcA]

/-- Row 1x of the CB table (R161). -/
def cbRow1 : List Instr :=
  [.rlB, .rlC, .rlD, .rlE,
   .rlH, .rlL, .rlAtHl, .rlA,
   .rrB, .rrC, .rrD, .rrE,
   .rrH, .rrL, .rrAtHl, .rrA]

/-- Row 2x of the CB table (R161). -/
def cbRow2 : List Instr :=
  [.slaB, .slaC, .slaD, .slaE,
   .slaH, .slaL, .slaAtHl, .slaA,
   .sraB, .sraC, .sraD, .sraE,
   .sraH, .sraL, .sraAtHl, .sraA]

/-- Row 3x of the CB table (R161). -/
def cbRow3 : List Instr :=
  [.swapB, .swapC, .swapD, .swapE,
   .swapH, .swapL, .swapAtHl, .swapA,
   .srlB, .srlC, .srlD, .srlE,
   .srlH, .srlL, .srlAtHl, .srlA]

/-- Row 4x of the CB table (R161). -/
def cbRow4 : List Instr :=
  [.bit0B, .bit0C, .bit0D, .bit0E,
   .bit0H, .bit0L, .bit0AtHl, .bit0A,
   .bit1B, .bit1C, .bit1D, .bit1E,
   .bit1H, .bit1L, .bit1AtHl, .bit1A]

/-- Row 5x of the CB table (R161). -/
def cbRow5 : List Instr :=
  [.bit2B, .bit2C, .bit2D, .bit2E,
   .bit2H, .bit2L, .bit2AtHl, .bit2A,
   .bit3B, .bit3C, .bit3D, .bit3E,
   .bit3H, .bit3L, .bit3AtHl, .bit3A]

/-- Row 6x of the CB table (R161). -/
def cbRow6 : List Instr :=
  [.bit4B, .bit4C, .bit4D, .bit4E,
   .bit4H, .bit4L, .bit4AtHl, .bit4A,
   .bit5B, .bit5C, .bit5D, .bit5E,
   .bit5H, .bit5L, .bit5AtHl, .bit5A]

/-- Row 7x of the CB table (R161). -/
def cbRow7 : List Instr :=
  [.bit6B, .bit6C, .bit6D, .bit6E,
   .bit6H, .bit6L, .bit6AtHl, .bit6A,
   .bit7B, .bit7C, .bit7D, .bit7E,
   .bit7H, .bit7L, .bit7AtHl, .bit7A]

/-- Row 8x of the CB table (R161). -/
def cbRow8 : List Instr :=
  [.res0B, .res0C, .res0D, .res0E,
   .res0H, .res0L, .res0AtHl, .res0A,
   .res1B, .res1C, .res1D, .res1E,
   .res1H, .res1L, .res1AtHl, .res1A]

/-- Row 9x of the CB table (R161). -/
def cbRow9 : List Instr :=
  [.res2B, .res2C, .res2D, .res2E,
   .res2H, .res2L, .res2AtHl, .res2A,
   .res3B, .res3C, .res3D, .res3E,
   .res3H, .res3L, .res3AtHl, .res3A]

/-- Row Ax of the CB table (R161). -/
def cbRowA : List Instr :=
  [.res4B, .res4C, .res4D, .res4E,
   .res4H, .res4L, .res4AtHl, .res4A,
   .res5B, .res5C, .res5D, .res5E,
   .res5H, .res5L, .res5AtHl, .res5A]

/-- Row Bx of the CB table (R161). -/
def cbRowB : List Instr :=
  [.res6B, .res6C, .res6D, .res6E,
   .res6H, .res6L, .res6AtHl, .res6A,
   .res7B, .res7C, .res7D, .res7E,
   .res7H, .res7L, .res7AtHl, .res7A]

/-- Row Cx of the CB table (R161). -/
def cbRowC : List Instr :=
  [.set0B, .set0C, .set0D, .set0E,
   .set0H, .set0L, .set0AtHl, .set0A,
   .set1B, .set1C, .set1D, .set1E,
   .set1H, .set1L, .set1AtHl, .set1A]

/-- Row Dx of the CB table (R161). -/
def cbRowD : List Instr :=
  [.set2B, .set2C, .set2D, .set2E,
   .set2H, .set2L, .set2AtHl, .set2A,
   .set3B, .set3C, .set3D, .set3E,
   .set3H, .set3L, .set3AtHl, .set3A]

/-- Row Ex of the CB table (R161). -/
def cbRowE : List Instr :=
  [.set4B, .set4C, .set4D, .set4E,
   .set4H, .set4L, .set4AtHl, .set4A,
   .set5B, .set5C, .set5D, .set5E,
   .set5H, .set5L, .set5AtHl, .set5A]

/-- Row Fx of the CB table (R161). -/
def cbRowF : List Instr :=
  [.set6B, .set6C, .set6D, .set6E,
   .set6H, .set6L, .set6AtHl, .set6A,
   .set7B, .set7C, .set7D, .set7E,
   .set7H, .set7L, .set7AtHl, .set7A]

/-- The CB-prefixed table of R161, by high nibble. -/
def cbTable : List (List Instr) :=
  [cbRow0, cbRow1, cbRow2, cbRow3, cbRow4, cbRow5, cbRow6, cbRow7] ++
  [cbRow8, cbRow9, cbRowA, cbRowB, cbRowC, cbRowD, cbRowE, cbRowF]

/-- The regular descriptor lookup (R150, R170). -/
def lookupRegular (op : Byte) : Entry :=
  (regularTable.getD (op.toNat / 16) []).getD (op.toNat % 16) .noDescriptor

/-- The CB-prefixed descriptor lookup. Both indexes are below 16, so the default is never taken (R161, R172). -/
def lookupCb (op : Byte) : Instr :=
  (cbTable.getD (op.toNat / 16) []).getD (op.toNat % 16) .nop

/-! ## The decoder -/

/-- What a byte sequence decodes to: an instruction and the bytes after it; an opcode without a descriptor, by its byte
(R162); or a sequence that ends inside an instruction. -/
inductive Decoded where
  | ok (i : Instr) (rest : List Byte)
  | noDescriptor (op : Byte)
  | truncated
  deriving DecidableEq, Repr

/-- The decoder, total over byte sequences (R172). -/
def decode : List Byte → Decoded
  | [] => .truncated
  | op :: rest =>
    match lookupRegular op, rest with
    | .implied i, _ => .ok i rest
    | .byte f, b1 :: rest1 => .ok (f b1) rest1
    | .byte _, [] => .truncated
    | .word f, b1 :: b2 :: rest2 => .ok (f (Word.ofBytes b2 b1)) rest2
    | .word _, _ => .truncated
    | .prefixCb, b1 :: rest1 => .ok (lookupCb b1) rest1
    | .prefixCb, [] => .truncated
    | .noDescriptor, _ => .noDescriptor op

/-! ## The rule of each instruction -/

/-- The rule and the operands of each row of the opcode table. -/
def Instr.shape : Instr → Shape
  | .nop => .nop
  | .ldBcD16 nn => .ldPairImm .bc nn
  | .ldAtBcA => .ldBcA
  | .incBc => .incPair .bc
  | .incB => .incReg .b
  | .decB => .decReg .b
  | .ldBD8 n => .ldRegImm .b n
  | .rlca => .rlca
  | .ldAtA16Sp aa => .ldAbsSp aa
  | .addHlBc => .addHl .bc
  | .ldAAtBc => .ldABc
  | .decBc => .decPair .bc
  | .incC => .incReg .c
  | .decC => .decReg .c
  | .ldCD8 n => .ldRegImm .c n
  | .rrca => .rrca
  | .stop x => .stop x
  | .ldDeD16 nn => .ldPairImm .de nn
  | .ldAtDeA => .ldDeA
  | .incDe => .incPair .de
  | .incD => .incReg .d
  | .decD => .decReg .d
  | .ldDD8 n => .ldRegImm .d n
  | .rla => .rla
  | .jrE8 e => .jr e
  | .addHlDe => .addHl .de
  | .ldAAtDe => .ldADe
  | .decDe => .decPair .de
  | .incE => .incReg .e
  | .decE => .decReg .e
  | .ldED8 n => .ldRegImm .e n
  | .rra => .rra
  | .jrNzE8 e => .jrCond .nz e
  | .ldHlD16 nn => .ldPairImm .hl nn
  | .ldAtHlIncA => .ldHlIncA
  | .incHl => .incPair .hl
  | .incH => .incReg .h
  | .decH => .decReg .h
  | .ldHD8 n => .ldRegImm .h n
  | .daa => .daa
  | .jrZE8 e => .jrCond .z e
  | .addHlHl => .addHl .hl
  | .ldAAtHlInc => .ldAHlInc
  | .decHl => .decPair .hl
  | .incL => .incReg .l
  | .decL => .decReg .l
  | .ldLD8 n => .ldRegImm .l n
  | .cpl => .cpl
  | .jrNcE8 e => .jrCond .nc e
  | .ldSpD16 nn => .ldPairImm .sp nn
  | .ldAtHlDecA => .ldHlDecA
  | .incSp => .incPair .sp
  | .incAtHl => .incHl
  | .decAtHl => .decHl
  | .ldAtHlD8 n => .ldHlImm n
  | .scf => .scf
  | .jrCE8 e => .jrCond .c e
  | .addHlSp => .addHl .sp
  | .ldAAtHlDec => .ldAHlDec
  | .decSp => .decPair .sp
  | .incA => .incReg .a
  | .decA => .decReg .a
  | .ldAD8 n => .ldRegImm .a n
  | .ccf => .ccf
  | .ldBB => .ldRegReg .b .b
  | .ldBC => .ldRegReg .b .c
  | .ldBD => .ldRegReg .b .d
  | .ldBE => .ldRegReg .b .e
  | .ldBH => .ldRegReg .b .h
  | .ldBL => .ldRegReg .b .l
  | .ldBAtHl => .ldRegHl .b
  | .ldBA => .ldRegReg .b .a
  | .ldCB => .ldRegReg .c .b
  | .ldCC => .ldRegReg .c .c
  | .ldCD => .ldRegReg .c .d
  | .ldCE => .ldRegReg .c .e
  | .ldCH => .ldRegReg .c .h
  | .ldCL => .ldRegReg .c .l
  | .ldCAtHl => .ldRegHl .c
  | .ldCA => .ldRegReg .c .a
  | .ldDB => .ldRegReg .d .b
  | .ldDC => .ldRegReg .d .c
  | .ldDD => .ldRegReg .d .d
  | .ldDE => .ldRegReg .d .e
  | .ldDH => .ldRegReg .d .h
  | .ldDL => .ldRegReg .d .l
  | .ldDAtHl => .ldRegHl .d
  | .ldDA => .ldRegReg .d .a
  | .ldEB => .ldRegReg .e .b
  | .ldEC => .ldRegReg .e .c
  | .ldED => .ldRegReg .e .d
  | .ldEE => .ldRegReg .e .e
  | .ldEH => .ldRegReg .e .h
  | .ldEL => .ldRegReg .e .l
  | .ldEAtHl => .ldRegHl .e
  | .ldEA => .ldRegReg .e .a
  | .ldHB => .ldRegReg .h .b
  | .ldHC => .ldRegReg .h .c
  | .ldHD => .ldRegReg .h .d
  | .ldHE => .ldRegReg .h .e
  | .ldHH => .ldRegReg .h .h
  | .ldHL => .ldRegReg .h .l
  | .ldHAtHl => .ldRegHl .h
  | .ldHA => .ldRegReg .h .a
  | .ldLB => .ldRegReg .l .b
  | .ldLC => .ldRegReg .l .c
  | .ldLD => .ldRegReg .l .d
  | .ldLE => .ldRegReg .l .e
  | .ldLH => .ldRegReg .l .h
  | .ldLL => .ldRegReg .l .l
  | .ldLAtHl => .ldRegHl .l
  | .ldLA => .ldRegReg .l .a
  | .ldAtHlB => .ldHlReg .b
  | .ldAtHlC => .ldHlReg .c
  | .ldAtHlD => .ldHlReg .d
  | .ldAtHlE => .ldHlReg .e
  | .ldAtHlH => .ldHlReg .h
  | .ldAtHlL => .ldHlReg .l
  | .halt => .halt
  | .ldAtHlA => .ldHlReg .a
  | .ldAB => .ldRegReg .a .b
  | .ldAC => .ldRegReg .a .c
  | .ldAD => .ldRegReg .a .d
  | .ldAE => .ldRegReg .a .e
  | .ldAH => .ldRegReg .a .h
  | .ldAL => .ldRegReg .a .l
  | .ldAAtHl => .ldRegHl .a
  | .ldAA => .ldRegReg .a .a
  | .addAB => .alu .add (.reg .b)
  | .addAC => .alu .add (.reg .c)
  | .addAD => .alu .add (.reg .d)
  | .addAE => .alu .add (.reg .e)
  | .addAH => .alu .add (.reg .h)
  | .addAL => .alu .add (.reg .l)
  | .addAAtHl => .alu .add .atHl
  | .addAA => .alu .add (.reg .a)
  | .adcAB => .alu .adc (.reg .b)
  | .adcAC => .alu .adc (.reg .c)
  | .adcAD => .alu .adc (.reg .d)
  | .adcAE => .alu .adc (.reg .e)
  | .adcAH => .alu .adc (.reg .h)
  | .adcAL => .alu .adc (.reg .l)
  | .adcAAtHl => .alu .adc .atHl
  | .adcAA => .alu .adc (.reg .a)
  | .subB => .alu .sub (.reg .b)
  | .subC => .alu .sub (.reg .c)
  | .subD => .alu .sub (.reg .d)
  | .subE => .alu .sub (.reg .e)
  | .subH => .alu .sub (.reg .h)
  | .subL => .alu .sub (.reg .l)
  | .subAtHl => .alu .sub .atHl
  | .subA => .alu .sub (.reg .a)
  | .sbcAB => .alu .sbc (.reg .b)
  | .sbcAC => .alu .sbc (.reg .c)
  | .sbcAD => .alu .sbc (.reg .d)
  | .sbcAE => .alu .sbc (.reg .e)
  | .sbcAH => .alu .sbc (.reg .h)
  | .sbcAL => .alu .sbc (.reg .l)
  | .sbcAAtHl => .alu .sbc .atHl
  | .sbcAA => .alu .sbc (.reg .a)
  | .andB => .alu .and (.reg .b)
  | .andC => .alu .and (.reg .c)
  | .andD => .alu .and (.reg .d)
  | .andE => .alu .and (.reg .e)
  | .andH => .alu .and (.reg .h)
  | .andL => .alu .and (.reg .l)
  | .andAtHl => .alu .and .atHl
  | .andA => .alu .and (.reg .a)
  | .xorB => .alu .xor (.reg .b)
  | .xorC => .alu .xor (.reg .c)
  | .xorD => .alu .xor (.reg .d)
  | .xorE => .alu .xor (.reg .e)
  | .xorH => .alu .xor (.reg .h)
  | .xorL => .alu .xor (.reg .l)
  | .xorAtHl => .alu .xor .atHl
  | .xorA => .alu .xor (.reg .a)
  | .orB => .alu .or (.reg .b)
  | .orC => .alu .or (.reg .c)
  | .orD => .alu .or (.reg .d)
  | .orE => .alu .or (.reg .e)
  | .orH => .alu .or (.reg .h)
  | .orL => .alu .or (.reg .l)
  | .orAtHl => .alu .or .atHl
  | .orA => .alu .or (.reg .a)
  | .cpB => .alu .cp (.reg .b)
  | .cpC => .alu .cp (.reg .c)
  | .cpD => .alu .cp (.reg .d)
  | .cpE => .alu .cp (.reg .e)
  | .cpH => .alu .cp (.reg .h)
  | .cpL => .alu .cp (.reg .l)
  | .cpAtHl => .alu .cp .atHl
  | .cpA => .alu .cp (.reg .a)
  | .retNz => .retCond .nz
  | .popBc => .pop .bc
  | .jpNzA16 aa => .jpCond .nz aa
  | .jpA16 aa => .jp aa
  | .callNzA16 aa => .callCond .nz aa
  | .pushBc => .push .bc
  | .addAD8 n => .alu .add (.imm n)
  | .rst00 => .rst 0
  | .retZ => .retCond .z
  | .ret => .ret
  | .jpZA16 aa => .jpCond .z aa
  | .callZA16 aa => .callCond .z aa
  | .callA16 aa => .call aa
  | .adcAD8 n => .alu .adc (.imm n)
  | .rst08 => .rst 1
  | .retNc => .retCond .nc
  | .popDe => .pop .de
  | .jpNcA16 aa => .jpCond .nc aa
  | .callNcA16 aa => .callCond .nc aa
  | .pushDe => .push .de
  | .subD8 n => .alu .sub (.imm n)
  | .rst10 => .rst 2
  | .retC => .retCond .c
  | .reti => .reti
  | .jpCA16 aa => .jpCond .c aa
  | .callCA16 aa => .callCond .c aa
  | .sbcAD8 n => .alu .sbc (.imm n)
  | .rst18 => .rst 3
  | .ldhAtA8A a => .ldhStore a
  | .popHl => .pop .hl
  | .ldAtCA => .ldHighCA
  | .pushHl => .push .hl
  | .andD8 n => .alu .and (.imm n)
  | .rst20 => .rst 4
  | .addSpE8 e => .addSp e
  | .jpHl => .jpHl
  | .ldAtA16A aa => .ldAbsA aa
  | .xorD8 n => .alu .xor (.imm n)
  | .rst28 => .rst 5
  | .ldhAAtA8 a => .ldhA a
  | .popAf => .pop .af
  | .ldAAtC => .ldAHighC
  | .di => .di
  | .pushAf => .push .af
  | .orD8 n => .alu .or (.imm n)
  | .rst30 => .rst 6
  | .ldHlSpE8 e => .ldHlSp e
  | .ldSpHl => .ldSpHl
  | .ldAAtA16 aa => .ldAAbs aa
  | .ei => .ei
  | .cpD8 n => .alu .cp (.imm n)
  | .rst38 => .rst 7
  | .rlcB => .rot .rlc (.reg .b)
  | .rlcC => .rot .rlc (.reg .c)
  | .rlcD => .rot .rlc (.reg .d)
  | .rlcE => .rot .rlc (.reg .e)
  | .rlcH => .rot .rlc (.reg .h)
  | .rlcL => .rot .rlc (.reg .l)
  | .rlcAtHl => .rot .rlc .atHl
  | .rlcA => .rot .rlc (.reg .a)
  | .rrcB => .rot .rrc (.reg .b)
  | .rrcC => .rot .rrc (.reg .c)
  | .rrcD => .rot .rrc (.reg .d)
  | .rrcE => .rot .rrc (.reg .e)
  | .rrcH => .rot .rrc (.reg .h)
  | .rrcL => .rot .rrc (.reg .l)
  | .rrcAtHl => .rot .rrc .atHl
  | .rrcA => .rot .rrc (.reg .a)
  | .rlB => .rot .rl (.reg .b)
  | .rlC => .rot .rl (.reg .c)
  | .rlD => .rot .rl (.reg .d)
  | .rlE => .rot .rl (.reg .e)
  | .rlH => .rot .rl (.reg .h)
  | .rlL => .rot .rl (.reg .l)
  | .rlAtHl => .rot .rl .atHl
  | .rlA => .rot .rl (.reg .a)
  | .rrB => .rot .rr (.reg .b)
  | .rrC => .rot .rr (.reg .c)
  | .rrD => .rot .rr (.reg .d)
  | .rrE => .rot .rr (.reg .e)
  | .rrH => .rot .rr (.reg .h)
  | .rrL => .rot .rr (.reg .l)
  | .rrAtHl => .rot .rr .atHl
  | .rrA => .rot .rr (.reg .a)
  | .slaB => .rot .sla (.reg .b)
  | .slaC => .rot .sla (.reg .c)
  | .slaD => .rot .sla (.reg .d)
  | .slaE => .rot .sla (.reg .e)
  | .slaH => .rot .sla (.reg .h)
  | .slaL => .rot .sla (.reg .l)
  | .slaAtHl => .rot .sla .atHl
  | .slaA => .rot .sla (.reg .a)
  | .sraB => .rot .sra (.reg .b)
  | .sraC => .rot .sra (.reg .c)
  | .sraD => .rot .sra (.reg .d)
  | .sraE => .rot .sra (.reg .e)
  | .sraH => .rot .sra (.reg .h)
  | .sraL => .rot .sra (.reg .l)
  | .sraAtHl => .rot .sra .atHl
  | .sraA => .rot .sra (.reg .a)
  | .swapB => .rot .swap (.reg .b)
  | .swapC => .rot .swap (.reg .c)
  | .swapD => .rot .swap (.reg .d)
  | .swapE => .rot .swap (.reg .e)
  | .swapH => .rot .swap (.reg .h)
  | .swapL => .rot .swap (.reg .l)
  | .swapAtHl => .rot .swap .atHl
  | .swapA => .rot .swap (.reg .a)
  | .srlB => .rot .srl (.reg .b)
  | .srlC => .rot .srl (.reg .c)
  | .srlD => .rot .srl (.reg .d)
  | .srlE => .rot .srl (.reg .e)
  | .srlH => .rot .srl (.reg .h)
  | .srlL => .rot .srl (.reg .l)
  | .srlAtHl => .rot .srl .atHl
  | .srlA => .rot .srl (.reg .a)
  | .bit0B => .bit 0 (.reg .b)
  | .bit0C => .bit 0 (.reg .c)
  | .bit0D => .bit 0 (.reg .d)
  | .bit0E => .bit 0 (.reg .e)
  | .bit0H => .bit 0 (.reg .h)
  | .bit0L => .bit 0 (.reg .l)
  | .bit0AtHl => .bit 0 .atHl
  | .bit0A => .bit 0 (.reg .a)
  | .bit1B => .bit 1 (.reg .b)
  | .bit1C => .bit 1 (.reg .c)
  | .bit1D => .bit 1 (.reg .d)
  | .bit1E => .bit 1 (.reg .e)
  | .bit1H => .bit 1 (.reg .h)
  | .bit1L => .bit 1 (.reg .l)
  | .bit1AtHl => .bit 1 .atHl
  | .bit1A => .bit 1 (.reg .a)
  | .bit2B => .bit 2 (.reg .b)
  | .bit2C => .bit 2 (.reg .c)
  | .bit2D => .bit 2 (.reg .d)
  | .bit2E => .bit 2 (.reg .e)
  | .bit2H => .bit 2 (.reg .h)
  | .bit2L => .bit 2 (.reg .l)
  | .bit2AtHl => .bit 2 .atHl
  | .bit2A => .bit 2 (.reg .a)
  | .bit3B => .bit 3 (.reg .b)
  | .bit3C => .bit 3 (.reg .c)
  | .bit3D => .bit 3 (.reg .d)
  | .bit3E => .bit 3 (.reg .e)
  | .bit3H => .bit 3 (.reg .h)
  | .bit3L => .bit 3 (.reg .l)
  | .bit3AtHl => .bit 3 .atHl
  | .bit3A => .bit 3 (.reg .a)
  | .bit4B => .bit 4 (.reg .b)
  | .bit4C => .bit 4 (.reg .c)
  | .bit4D => .bit 4 (.reg .d)
  | .bit4E => .bit 4 (.reg .e)
  | .bit4H => .bit 4 (.reg .h)
  | .bit4L => .bit 4 (.reg .l)
  | .bit4AtHl => .bit 4 .atHl
  | .bit4A => .bit 4 (.reg .a)
  | .bit5B => .bit 5 (.reg .b)
  | .bit5C => .bit 5 (.reg .c)
  | .bit5D => .bit 5 (.reg .d)
  | .bit5E => .bit 5 (.reg .e)
  | .bit5H => .bit 5 (.reg .h)
  | .bit5L => .bit 5 (.reg .l)
  | .bit5AtHl => .bit 5 .atHl
  | .bit5A => .bit 5 (.reg .a)
  | .bit6B => .bit 6 (.reg .b)
  | .bit6C => .bit 6 (.reg .c)
  | .bit6D => .bit 6 (.reg .d)
  | .bit6E => .bit 6 (.reg .e)
  | .bit6H => .bit 6 (.reg .h)
  | .bit6L => .bit 6 (.reg .l)
  | .bit6AtHl => .bit 6 .atHl
  | .bit6A => .bit 6 (.reg .a)
  | .bit7B => .bit 7 (.reg .b)
  | .bit7C => .bit 7 (.reg .c)
  | .bit7D => .bit 7 (.reg .d)
  | .bit7E => .bit 7 (.reg .e)
  | .bit7H => .bit 7 (.reg .h)
  | .bit7L => .bit 7 (.reg .l)
  | .bit7AtHl => .bit 7 .atHl
  | .bit7A => .bit 7 (.reg .a)
  | .res0B => .res 0 (.reg .b)
  | .res0C => .res 0 (.reg .c)
  | .res0D => .res 0 (.reg .d)
  | .res0E => .res 0 (.reg .e)
  | .res0H => .res 0 (.reg .h)
  | .res0L => .res 0 (.reg .l)
  | .res0AtHl => .res 0 .atHl
  | .res0A => .res 0 (.reg .a)
  | .res1B => .res 1 (.reg .b)
  | .res1C => .res 1 (.reg .c)
  | .res1D => .res 1 (.reg .d)
  | .res1E => .res 1 (.reg .e)
  | .res1H => .res 1 (.reg .h)
  | .res1L => .res 1 (.reg .l)
  | .res1AtHl => .res 1 .atHl
  | .res1A => .res 1 (.reg .a)
  | .res2B => .res 2 (.reg .b)
  | .res2C => .res 2 (.reg .c)
  | .res2D => .res 2 (.reg .d)
  | .res2E => .res 2 (.reg .e)
  | .res2H => .res 2 (.reg .h)
  | .res2L => .res 2 (.reg .l)
  | .res2AtHl => .res 2 .atHl
  | .res2A => .res 2 (.reg .a)
  | .res3B => .res 3 (.reg .b)
  | .res3C => .res 3 (.reg .c)
  | .res3D => .res 3 (.reg .d)
  | .res3E => .res 3 (.reg .e)
  | .res3H => .res 3 (.reg .h)
  | .res3L => .res 3 (.reg .l)
  | .res3AtHl => .res 3 .atHl
  | .res3A => .res 3 (.reg .a)
  | .res4B => .res 4 (.reg .b)
  | .res4C => .res 4 (.reg .c)
  | .res4D => .res 4 (.reg .d)
  | .res4E => .res 4 (.reg .e)
  | .res4H => .res 4 (.reg .h)
  | .res4L => .res 4 (.reg .l)
  | .res4AtHl => .res 4 .atHl
  | .res4A => .res 4 (.reg .a)
  | .res5B => .res 5 (.reg .b)
  | .res5C => .res 5 (.reg .c)
  | .res5D => .res 5 (.reg .d)
  | .res5E => .res 5 (.reg .e)
  | .res5H => .res 5 (.reg .h)
  | .res5L => .res 5 (.reg .l)
  | .res5AtHl => .res 5 .atHl
  | .res5A => .res 5 (.reg .a)
  | .res6B => .res 6 (.reg .b)
  | .res6C => .res 6 (.reg .c)
  | .res6D => .res 6 (.reg .d)
  | .res6E => .res 6 (.reg .e)
  | .res6H => .res 6 (.reg .h)
  | .res6L => .res 6 (.reg .l)
  | .res6AtHl => .res 6 .atHl
  | .res6A => .res 6 (.reg .a)
  | .res7B => .res 7 (.reg .b)
  | .res7C => .res 7 (.reg .c)
  | .res7D => .res 7 (.reg .d)
  | .res7E => .res 7 (.reg .e)
  | .res7H => .res 7 (.reg .h)
  | .res7L => .res 7 (.reg .l)
  | .res7AtHl => .res 7 .atHl
  | .res7A => .res 7 (.reg .a)
  | .set0B => .set 0 (.reg .b)
  | .set0C => .set 0 (.reg .c)
  | .set0D => .set 0 (.reg .d)
  | .set0E => .set 0 (.reg .e)
  | .set0H => .set 0 (.reg .h)
  | .set0L => .set 0 (.reg .l)
  | .set0AtHl => .set 0 .atHl
  | .set0A => .set 0 (.reg .a)
  | .set1B => .set 1 (.reg .b)
  | .set1C => .set 1 (.reg .c)
  | .set1D => .set 1 (.reg .d)
  | .set1E => .set 1 (.reg .e)
  | .set1H => .set 1 (.reg .h)
  | .set1L => .set 1 (.reg .l)
  | .set1AtHl => .set 1 .atHl
  | .set1A => .set 1 (.reg .a)
  | .set2B => .set 2 (.reg .b)
  | .set2C => .set 2 (.reg .c)
  | .set2D => .set 2 (.reg .d)
  | .set2E => .set 2 (.reg .e)
  | .set2H => .set 2 (.reg .h)
  | .set2L => .set 2 (.reg .l)
  | .set2AtHl => .set 2 .atHl
  | .set2A => .set 2 (.reg .a)
  | .set3B => .set 3 (.reg .b)
  | .set3C => .set 3 (.reg .c)
  | .set3D => .set 3 (.reg .d)
  | .set3E => .set 3 (.reg .e)
  | .set3H => .set 3 (.reg .h)
  | .set3L => .set 3 (.reg .l)
  | .set3AtHl => .set 3 .atHl
  | .set3A => .set 3 (.reg .a)
  | .set4B => .set 4 (.reg .b)
  | .set4C => .set 4 (.reg .c)
  | .set4D => .set 4 (.reg .d)
  | .set4E => .set 4 (.reg .e)
  | .set4H => .set 4 (.reg .h)
  | .set4L => .set 4 (.reg .l)
  | .set4AtHl => .set 4 .atHl
  | .set4A => .set 4 (.reg .a)
  | .set5B => .set 5 (.reg .b)
  | .set5C => .set 5 (.reg .c)
  | .set5D => .set 5 (.reg .d)
  | .set5E => .set 5 (.reg .e)
  | .set5H => .set 5 (.reg .h)
  | .set5L => .set 5 (.reg .l)
  | .set5AtHl => .set 5 .atHl
  | .set5A => .set 5 (.reg .a)
  | .set6B => .set 6 (.reg .b)
  | .set6C => .set 6 (.reg .c)
  | .set6D => .set 6 (.reg .d)
  | .set6E => .set 6 (.reg .e)
  | .set6H => .set 6 (.reg .h)
  | .set6L => .set 6 (.reg .l)
  | .set6AtHl => .set 6 .atHl
  | .set6A => .set 6 (.reg .a)
  | .set7B => .set 7 (.reg .b)
  | .set7C => .set 7 (.reg .c)
  | .set7D => .set 7 (.reg .d)
  | .set7E => .set 7 (.reg .e)
  | .set7H => .set 7 (.reg .h)
  | .set7L => .set 7 (.reg .l)
  | .set7AtHl => .set 7 .atHl
  | .set7A => .set 7 (.reg .a)

/-! ## The encoder (R153, R154) -/

/-- The `r` code of a register. -/
def Reg8.code : Reg8 → BitVec 3
  | .b => 0 | .c => 1 | .d => 2 | .e => 3 | .h => 4 | .l => 5 | .a => 7

/-- The `r` code of a location: 6 is the byte at HL. -/
def Loc8.code : Loc8 → BitVec 3
  | .reg r => r.code
  | .atHl => 6

/-- The `rr` code. -/
def Pair16.code : Pair16 → BitVec 2
  | .bc => 0 | .de => 1 | .hl => 2 | .sp => 3

/-- The `qq` code. -/
def StackPair.code : StackPair → BitVec 2
  | .bc => 0 | .de => 1 | .hl => 2 | .af => 3

/-- The `cc` code, in y[1:0]. -/
def Cond.code : Cond → BitVec 2
  | .nz => 0 | .z => 1 | .nc => 2 | .c => 3

/-- The `alu` code. -/
def AluOp.code : AluOp → BitVec 3
  | .add => 0 | .adc => 1 | .sub => 2 | .sbc => 3 | .and => 4 | .xor => 5 | .or => 6 | .cp => 7

/-- The `rot` code. -/
def RotOp.code : RotOp → BitVec 3
  | .rlc => 0 | .rrc => 1 | .rl => 2 | .rr => 3 | .sla => 4 | .sra => 5 | .swap => 6 | .srl => 7

/-- An opcode byte from its fields x, y and z (R153). -/
def opXyz (x : BitVec 2) (y z : BitVec 3) : Byte := x ++ y ++ z

/-- An opcode byte from its fields x, p, q and z (R153). -/
def opXpqz (x p : BitVec 2) (q : BitVec 1) (z : BitVec 3) : Byte := x ++ p ++ q ++ z

/-- The conditional forms: y = 0cc in group 3, and y = 1cc for JR (R154, R382, R391). -/
def opCond (x : BitVec 2) (y2 : BitVec 1) (cc : Cond) (z : BitVec 3) : Byte := x ++ (y2 ++ cc.code) ++ z

/-- The encoding line of each instruction rule. -/
def Shape.encode : Shape → List Byte
  | .ldRegReg dst src => [opXyz 1 dst.code src.code]
  | .ldRegHl dst => [opXyz 1 dst.code 6]
  | .ldHlReg r => [opXyz 1 6 r.code]
  | .ldRegImm dst n => [opXyz 0 dst.code 6, n]
  | .ldHlImm n => [0x36, n]
  | .ldABc => [0x0A]
  | .ldADe => [0x1A]
  | .ldBcA => [0x02]
  | .ldDeA => [0x12]
  | .ldAHlInc => [0x2A]
  | .ldAHlDec => [0x3A]
  | .ldHlIncA => [0x22]
  | .ldHlDecA => [0x32]
  | .ldAAbs aa => [0xFA, aa.lo, aa.hi]
  | .ldAbsA aa => [0xEA, aa.lo, aa.hi]
  | .ldhA a => [0xF0, a]
  | .ldhStore a => [0xE0, a]
  | .ldAHighC => [0xF2]
  | .ldHighCA => [0xE2]
  | .ldPairImm p nn => [opXpqz 0 p.code 0 1, nn.lo, nn.hi]
  | .ldSpHl => [0xF9]
  | .ldAbsSp aa => [0x08, aa.lo, aa.hi]
  | .push q => [opXpqz 3 q.code 0 5]
  | .pop q => [opXpqz 3 q.code 0 1]
  | .alu op (.reg r) => [opXyz 2 op.code r.code]
  | .alu op .atHl => [opXyz 2 op.code 6]
  | .alu op (.imm n) => [opXyz 3 op.code 6, n]
  | .incReg r => [opXyz 0 r.code 4]
  | .incHl => [0x34]
  | .decReg r => [opXyz 0 r.code 5]
  | .decHl => [0x35]
  | .daa => [0x27]
  | .cpl => [0x2F]
  | .scf => [0x37]
  | .ccf => [0x3F]
  | .rlca => [0x07]
  | .rrca => [0x0F]
  | .rla => [0x17]
  | .rra => [0x1F]
  | .addHl p => [opXpqz 0 p.code 1 1]
  | .incPair p => [opXpqz 0 p.code 0 3]
  | .decPair p => [opXpqz 0 p.code 1 3]
  | .addSp e => [0xE8, e]
  | .ldHlSp e => [0xF8, e]
  | .rot op l => [0xCB, opXyz 0 op.code l.code]
  | .bit b l => [0xCB, opXyz 1 b l.code]
  | .res b l => [0xCB, opXyz 2 b l.code]
  | .set b l => [0xCB, opXyz 3 b l.code]
  | .jp aa => [0xC3, aa.lo, aa.hi]
  | .jpCond cc aa => [opCond 3 0 cc 2, aa.lo, aa.hi]
  | .jpHl => [0xE9]
  | .jr e => [0x18, e]
  | .jrCond cc e => [opCond 0 1 cc 0, e]
  | .call aa => [0xCD, aa.lo, aa.hi]
  | .callCond cc aa => [opCond 3 0 cc 4, aa.lo, aa.hi]
  | .ret => [0xC9]
  | .retCond cc => [opCond 3 0 cc 0]
  | .rst y => [opXyz 3 y 7]
  | .reti => [0xD9]
  | .nop => [0x00]
  | .halt => [0x76]
  | .stop x => [0x10, x]
  | .di => [0xF3]
  | .ei => [0xFB]

/-- The bytes of an instruction, lowest address first. -/
def Instr.encode (i : Instr) : List Byte := i.shape.encode

/-! ## Instruction descriptors (R170) -/

/-- "byte length, base cycle cost, an optional alternate cycle cost for conditional instructions that branch" (R170). An
instruction without an alternate cost has its base cost there. -/
structure Descriptor where
  length    : Nat
  base      : Nat
  alternate : Nat
  deriving DecidableEq, Repr

/-- A descriptor without an alternate cost. -/
def Descriptor.plain (length base : Nat) : Descriptor := ⟨length, base, base⟩

/-- The length and cycle columns of R160 and R161. -/
def Shape.descriptor : Shape → Descriptor
  | .ldRegReg _ _ => .plain 1 4
  | .ldRegHl _ | .ldHlReg _ => .plain 1 8
  | .ldRegImm _ _ => .plain 2 8
  | .ldHlImm _ => .plain 2 12
  | .ldABc | .ldADe | .ldBcA | .ldDeA => .plain 1 8
  | .ldAHlInc | .ldAHlDec | .ldHlIncA | .ldHlDecA => .plain 1 8
  | .ldAAbs _ | .ldAbsA _ => .plain 3 16
  | .ldhA _ | .ldhStore _ => .plain 2 12
  | .ldAHighC | .ldHighCA => .plain 1 8
  | .ldPairImm _ _ => .plain 3 12
  | .ldSpHl => .plain 1 8
  | .ldAbsSp _ => .plain 3 20
  | .push _ => .plain 1 16
  | .pop _ => .plain 1 12
  | .alu _ (.reg _) => .plain 1 4
  | .alu _ .atHl => .plain 1 8
  | .alu _ (.imm _) => .plain 2 8
  | .incReg _ | .decReg _ => .plain 1 4
  | .incHl | .decHl => .plain 1 12
  | .daa | .cpl | .scf | .ccf => .plain 1 4
  | .rlca | .rrca | .rla | .rra => .plain 1 4
  | .addHl _ | .incPair _ | .decPair _ => .plain 1 8
  | .addSp _ => .plain 2 16
  | .ldHlSp _ => .plain 2 12
  | .rot _ (.reg _) => .plain 2 8
  | .rot _ .atHl => .plain 2 16
  | .bit _ (.reg _) => .plain 2 8
  | .bit _ .atHl => .plain 2 12
  | .res _ (.reg _) | .set _ (.reg _) => .plain 2 8
  | .res _ .atHl | .set _ .atHl => .plain 2 16
  | .jp _ => .plain 3 16
  | .jpCond _ _ => ⟨3, 12, 16⟩
  | .jpHl => .plain 1 4
  | .jr _ => .plain 2 12
  | .jrCond _ _ => ⟨2, 8, 12⟩
  | .call _ => .plain 3 24
  | .callCond _ _ => ⟨3, 12, 24⟩
  | .ret => .plain 1 16
  | .retCond _ => ⟨1, 8, 20⟩
  | .rst _ => .plain 1 16
  | .reti => .plain 1 16
  | .nop | .halt | .di | .ei => .plain 1 4
  | .stop _ => .plain 2 4

/-- The descriptor of an instruction. -/
def Instr.descriptor (i : Instr) : Descriptor := i.shape.descriptor

/-! ## The host's reading of a table word -/

/-- The bytes of a table word, lowest address first, padded with zeros to the longest instruction's three bytes. The opcode table
numbers a CB row as 0xCB06 with the prefix in bits 15..8; every other word has its first byte in bits 7..0 (log 12). -/
def tableBytes (nbits w : Nat) : List Byte :=
  let b (k : Nat) : Byte := BitVec.ofNat 8 (w / 256 ^ k)
  if nbits = 16 ∧ b 1 = 0xCB then [b 1, b 0, 0]
  else (if 0 < nbits then b 0 else 0) :: (if 8 < nbits then b 1 else 0) :: [if 16 < nbits then b 2 else 0]

/-- The instruction the decoder reads from a table word. -/
def decodeTableWord (nbits w : Nat) : Option Instr :=
  match decode (tableBytes nbits w) with
  | .ok i _ => some i
  | .noDescriptor _ => none
  | .truncated => none

end Sys2Proof
end

