-- ==== Sys2Proof/Config.lean ====
section
/-! DEFINITION. The named parameters of spec 00_scope.md R7 and the two functions the spec leaves OPEN (92_eei_decisions.md
D30). The parameters are plain data, held in State.params and never changed by a step (log 1), so that a claim about every
state is a claim about every value of them. -/

namespace Sys2Proof

/-- `HALT_BUG_MODE` (R7, D4; 60_exceptions.md R485 and R486). -/
inductive HaltBugMode where
  | hardware
  | source
  deriving DecidableEq, Repr

/-- `OBJ_BG_PRIORITY_MODE` (R7, D15; 61_picture_unit.md R575). -/
inductive ObjBgPriorityMode where
  | docLiteral
  | dmg
  deriving DecidableEq, Repr

/-- `OBJ_PALETTE` (R7, D16). -/
inductive ObjPalette where
  | obp
  | bgp
  deriving DecidableEq, Repr

/-- `LYC_MODE` (R7, D20; 61_picture_unit.md R565). -/
inductive LycMode where
  | level
  | edge
  deriving DecidableEq, Repr

/-- The parameters of R7 that a run of the machine depends on. `SAMPLE_PERIOD` is the positive rational
`samplePeriodNum / samplePeriodDen` cycles per output sample (62_sound_unit.md R672). -/
structure Params where
  haltBugMode       : HaltBugMode
  objBgPriorityMode : ObjBgPriorityMode
  objPalette        : ObjPalette
  objYFlip          : Bool
  lycMode           : LycMode
  samplePeriodNum   : Nat
  samplePeriodDen   : Nat
  deriving DecidableEq, Repr

/-- The default values of R7. `SAMPLE_PERIOD` has no default there ("a host input"): 4194304/44100, the example of R672,
is taken. DESIGN CHOICE, unsafe (log 4). -/
def Params.default : Params where
  haltBugMode       := .hardware
  objBgPriorityMode := .docLiteral
  objPalette        := .obp
  objYFlip          := false
  lycMode           := .level
  samplePeriodNum   := 4194304
  samplePeriodDen   := 44100

/-- `DAC_OUT` (62_sound_unit.md R661): a channel level 0..15 as a signed number. OPEN in the spec (D30), so it has no body
here: a free value, safe (log 5). -/
opaque Config.dacOut : BitVec 4 → Rat

/-- `MIX_QUANT` (62_sound_unit.md R670): the quartered left and right sums and NR50 as a pair of signed 16-bit values.
OPEN in the spec (D30), so it has no body here: a free value, safe (log 5). -/
opaque Config.mixQuant : Rat → Rat → Byte → BitVec 16 × BitVec 16

end Sys2Proof
end

