-- ==== Sys2Proof/Machine/Memory.lean ====
section
/-! DEFINITION. Sparse storage in one canonical form: a list of (index, value) pairs with strictly rising indexes and no entry
equal to what an unlisted index reads as. One generic type serves the byte memories (10_state.md R40) and the 2-bit picture
arrays (61_picture_unit.md R590, 10_state.md R44). -/

namespace Sys2Proof.Machine

/-- Indexed storage of `w`-bit values. -/
abbrev Cells (w : Nat) := List (Nat × BitVec w)

/-- A byte memory: a list of the host's cells. -/
abbrev Memory := List Host.Cell

/-- What an unlisted index reads as: 0, the default of the parameter `INIT_MEM` (00_scope.md R7, D14; log 2) and the reset
value of the frame buffer and of `bg_index` (10_state.md R44). -/
def Cells.unlisted (w : Nat) : BitVec w := 0

/-- The value at index `a`. -/
def Cells.get {w : Nat} : Cells w → Nat → BitVec w
  | [], _ => Cells.unlisted w
  | (k, v) :: rest, a => if k = a then v else Cells.get rest a

/-- Removes the entry of index `a`, which then reads as unlisted. -/
def Cells.erase {w : Nat} : Cells w → Nat → Cells w
  | [], _ => []
  | (k, v) :: rest, a => if k = a then Cells.erase rest a else (k, v) :: Cells.erase rest a

/-- Inserts an entry at its place among the rising indexes. -/
def Cells.insert {w : Nat} : Cells w → Nat → BitVec w → Cells w
  | [], a, v => [(a, v)]
  | (k, u) :: rest, a, v => if a < k then (a, v) :: (k, u) :: rest else (k, u) :: Cells.insert rest a v

/-- Stores `v` at index `a`, keeping the canonical form: storing the unlisted value removes the entry. -/
def Cells.set {w : Nat} (m : Cells w) (a : Nat) (v : BitVec w) : Cells w :=
  if v = Cells.unlisted w then Cells.erase m a else Cells.insert (Cells.erase m a) a v

/-- The canonical form, within `size` indexes. -/
abbrev Cells.Wf {w : Nat} (size : Nat) (m : Cells w) : Prop :=
  m.Pairwise (fun x y => x.1 < y.1) ∧ ∀ x ∈ m, x.2 ≠ Cells.unlisted w ∧ x.1 < size

/-- The canonical form of a byte memory of `size` bytes. -/
abbrev Memory.wf (size : Nat) (m : Memory) : Prop := Cells.Wf size m

end Sys2Proof.Machine
end

