-- ==== Sys2Proof/WellFormed.lean ====
section
/-! DEFINITION. Well-formedness. An instruction's operands have exactly the widths of its encoding, so every term of `Instr`
is well formed and the check of an instruction is always true; the checks that can fail are those of the launch inputs
(spec 00_scope.md R7, 70_reset_and_hazards.md R701): the parameters, the cartridge image and the initial memories. -/

namespace Sys2Proof

/-- Every instruction is well formed: each operand is a bit vector of its encoding's width (30_encoding.md R152). -/
def Instr.wellFormed : Instr → Bool := fun _ => true

/-- `SAMPLE_PERIOD` is a positive rational number (R7, 62_sound_unit.md R672). -/
def Params.wellFormed (p : Params) : Bool := decide (0 < p.samplePeriodNum) && decide (0 < p.samplePeriodDen)

/-- A cartridge image: its length in bytes and its nonzero bytes by offset. `CART_ROM` of R7. -/
structure Rom where
  size  : Nat
  bytes : Machine.Memory
  deriving DecidableEq, Repr

/-- The bytes lie within the image, in canonical form. -/
def Rom.wellFormed (r : Rom) : Bool := decide (Machine.Memory.wf r.size r.bytes)

/-- `INIT_MEM` of R7: the initial bytes of the RAMs, each by offset. -/
structure InitMem where
  vram    : Machine.Memory
  oam     : Machine.Memory
  wram    : Machine.Memory
  hram    : Machine.Memory
  waveRam : Machine.Memory
  cartRam : Machine.Memory
  deriving DecidableEq, Repr

/-- The default of R7: all zero. -/
def InitMem.zero : InitMem := ⟨[], [], [], [], [], []⟩

/-- Each memory lies within its size (10_state.md R40), in canonical form; `cartRamSize` is that of the cartridge (R126). -/
def InitMem.wellFormed (m : InitMem) (cartRamSize : Nat) : Bool :=
  decide (Machine.Memory.wf 8192 m.vram) && decide (Machine.Memory.wf 160 m.oam) &&
  decide (Machine.Memory.wf 8192 m.wram) && decide (Machine.Memory.wf 127 m.hram) &&
  decide (Machine.Memory.wf 16 m.waveRam) && decide (Machine.Memory.wf cartRamSize m.cartRam)

end Sys2Proof
end

