-- ==== Sys2Proof/Machine/State.lean ====
section
/-! DEFINITION. The state of the machine, as plain data, and the state after reset (spec 10_state.md, 62_sound_unit.md R621 and
R625, 70_reset_and_hazards.md R702). INVENTORY.md lists every piece with the rule that names it. -/

namespace Sys2Proof.Machine

/-- Why a step has no next state. -/
inductive Fault where
  /-- Raised by `step` on a state whose `fault` is recorded: the opcode `op` at `pc` had no descriptor (60_exceptions.md R455).
  The step that met it records it and changes nothing else. Safe: it is the spec's own end of a run (log 8). -/
  | illegalOpcode (pc : Word) (op : Byte)
  deriving DecidableEq, Repr

/-- Why an instruction has no meaning. -/
inductive Refusal where
  /-- An instruction without a meaning yet, by its mnemonic. No arm of `exec` raises it: every row has its meaning. Safe. -/
  | notModelled (mnemonic : String)
  deriving DecidableEq, Repr

/-- The CPU register file: the eight 8-bit registers, SP and PC (10_state.md R30, R34, R35). -/
structure Regs where
  a  : Byte
  f  : Byte
  b  : Byte
  c  : Byte
  d  : Byte
  e  : Byte
  h  : Byte
  l  : Byte
  sp : Word
  pc : Word
  deriving DecidableEq, Repr

/-- The timer (10_state.md R41, R43; 60_exceptions.md R510). -/
structure Timer where
  div             : Byte
  tima            : Byte
  tma             : Byte
  tac             : Byte
  divSub          : Nat
  timaSub         : Nat
  overflowPending : Bool
  deriving DecidableEq, Repr

/-- The joypad (10_state.md R46): the select bits of P1 (bit 0 is P1 bit 4, bit 1 is P1 bit 5) and the buttons held. -/
structure Joypad where
  sel     : BitVec 2
  buttons : Byte
  deriving DecidableEq, Repr

/-- The picture unit's four modes (61_picture_unit.md R553). -/
inductive Mode where
  | hblank
  | vblank
  | oamScan
  | transfer
  deriving DecidableEq, Repr

/-- The picture unit: its memories, registers and internal state (10_state.md R40, R41, R44). `statSrc` is STAT bits 6..3;
`bgIndex` is indexed by pixel; the frame buffer `fb` is indexed by `160 * row + pixel`. -/
structure Ppu where
  vram        : Memory
  oam         : Memory
  lcdc        : Byte
  statSrc     : BitVec 4
  coincidence : Bool
  mode        : Mode
  scy         : Byte
  scx         : Byte
  ly          : Byte
  lyc         : Byte
  bgp         : Byte
  obp0        : Byte
  obp1        : Byte
  wy          : Byte
  wx          : Byte
  modeClock   : Nat
  lycPrev     : Bool
  bgIndex     : Cells 2
  fb          : Cells 2
  deriving DecidableEq, Repr

/-- The stored bytes of the sound registers (62_sound_unit.md R621), and NR52 bit 7 as `master`. -/
structure SoundRegs where
  nr10   : Byte
  nr11   : Byte
  nr12   : Byte
  nr13   : Byte
  nr14   : Byte
  nr21   : Byte
  nr22   : Byte
  nr23   : Byte
  nr24   : Byte
  nr30   : Byte
  nr31   : Byte
  nr32   : Byte
  nr33   : Byte
  nr34   : Byte
  nr41   : Byte
  nr42   : Byte
  nr43   : Byte
  nr44   : Byte
  nr50   : Byte
  nr51   : Byte
  master : Bool
  deriving DecidableEq, Repr

/-- What every channel holds (62_sound_unit.md R625): `timer` is the frequency timer, a signed integer (R641). -/
structure Channel where
  enabled       : Bool
  timer         : Int
  lengthEnabled : Bool
  length        : Nat
  deriving DecidableEq, Repr

/-- The envelope of channels 1, 2 and 4 (62_sound_unit.md R625, R648). -/
structure Envelope where
  vol    : BitVec 4
  dir    : Bool
  period : BitVec 3
  timer  : Int
  deriving DecidableEq, Repr

/-- The sweep of channels 1 and 2 (62_sound_unit.md R625, R651); its parameters are read from NR10 when used (R650). -/
structure Sweep where
  enabled : Bool
  shadow  : BitVec 11
  timer   : Int
  deriving DecidableEq, Repr

/-- A pulse channel, 1 or 2. -/
structure Pulse where
  ch      : Channel
  dutyPos : BitVec 3
  env     : Envelope
  sweep   : Sweep
  deriving DecidableEq, Repr

/-- The wavetable channel, 3. -/
structure Wave where
  ch      : Channel
  wavePos : BitVec 5
  deriving DecidableEq, Repr

/-- The noise channel, 4. -/
structure Noise where
  ch   : Channel
  lfsr : BitVec 15
  env  : Envelope
  deriving DecidableEq, Repr

/-- The sound unit (10_state.md R45). `sampleAcc / samplePeriodDen` is the spec's rational `sample_acc` (R672; log 4). -/
structure Sound where
  regs      : SoundRegs
  waveRam   : Memory
  ch1       : Pulse
  ch2       : Pulse
  ch3       : Wave
  ch4       : Noise
  fsAcc     : Nat
  fsStep    : BitVec 3
  sampleAcc : Nat
  deriving DecidableEq, Repr

/-- The bank-controller variant, selected once at load (20_memory.md R120). -/
inductive Variant where
  | noBanking
  | schemeA
  | schemeB
  deriving DecidableEq, Repr

/-- The cartridge (10_state.md R40, R47): `ramSize` is the size of its RAM, fixed at load (20_memory.md R125, R126). -/
structure Cart where
  rom        : Rom
  variant    : Variant
  ramSize    : Nat
  ram        : Memory
  romBank    : BitVec 5
  ramBank    : BitVec 2
  bankMode   : Bool
  ramEnabled : Bool
  deriving DecidableEq, Repr

/-- An output event to the host: a finished frame (61_picture_unit.md R592) or a stereo sample pair (62_sound_unit.md R672). -/
inductive Output where
  | frame (fb : Cells 2)
  | sample (left right : BitVec 16)
  deriving DecidableEq, Repr

/-- The whole machine. `params`, `buttonsIn`, `cycles` and `out` are the model's own fields (logs 1, 6 and 7): the parameters of
00_scope.md R7, the host's button masks still to come, the cycle count the last CPU step returned, and the output events of
the last machine step. -/
structure State where
  regs      : Regs
  ime       : Bool
  eiDelay   : Fin 3
  halted    : Bool
  stopped   : Bool
  haltBug   : Bool
  fault     : Option Fault
  regIF     : Byte
  regIE     : Byte
  wram      : Memory
  hram      : Memory
  dma       : Byte
  timer     : Timer
  joypad    : Joypad
  ppu       : Ppu
  sound     : Sound
  cart      : Cart
  params    : Params
  buttonsIn : List Byte
  cycles    : Nat
  out       : List Output
  deriving DecidableEq, Repr

/-- The outcome of an instruction or of a step. -/
abbrev Outcome := Host.Outcome State Fault Refusal

/-! ## Reset values -/

/-- The CPU registers at reset (10_state.md R48). -/
def Regs.reset : Regs where
  a  := 0x01
  f  := 0xB0
  b  := 0x00
  c  := 0x13
  d  := 0x00
  e  := 0xD8
  h  := 0x01
  l  := 0x4D
  sp := 0xFFFE
  pc := 0x0100

/-- The timer at reset (R41, R43). -/
def Timer.reset : Timer := ⟨0, 0, 0, 0, 0, 0, false⟩

/-- The joypad at reset (R41, R46). -/
def Joypad.reset : Joypad := ⟨0b11, 0⟩

/-- The picture unit at reset, with the given memories (R41, R44). -/
def Ppu.reset (vram oam : Memory) : Ppu where
  vram        := vram
  oam         := oam
  lcdc        := 0x91
  statSrc     := 0
  coincidence := true
  mode        := .oamScan
  scy         := 0
  scx         := 0
  ly          := 0
  lyc         := 0
  bgp         := 0xFC
  obp0        := 0xFF
  obp1        := 0xFF
  wy          := 0
  wx          := 0
  modeClock   := 0
  lycPrev     := false
  bgIndex     := []
  fb          := []

/-- The sound registers at reset (62_sound_unit.md R621): all zero, NR52 = 0x80. -/
def SoundRegs.reset : SoundRegs := ⟨0, 0, 0, 0, 0, 0, 0, 0, 0, 0, 0, 0, 0, 0, 0, 0, 0, 0, 0, 0, true⟩

/-- The common part of a channel at reset (R45, R625). -/
def Channel.reset : Channel := ⟨false, 0, false, 0⟩

/-- The envelope at reset. -/
def Envelope.reset : Envelope := ⟨0, false, 0, 0⟩

/-- A pulse channel at reset. -/
def Pulse.reset : Pulse := ⟨Channel.reset, 0, Envelope.reset, ⟨false, 0, 0⟩⟩

/-- The sound unit at reset, with the given wave RAM (R45: every item 0 or disabled, except the LFSR). -/
def Sound.reset (waveRam : Memory) : Sound where
  regs      := SoundRegs.reset
  waveRam   := waveRam
  ch1       := Pulse.reset
  ch2       := Pulse.reset
  ch3       := ⟨Channel.reset, 0⟩
  ch4       := ⟨Channel.reset, 0x7FFF, Envelope.reset⟩
  fsAcc     := 0
  fsStep    := 0
  sampleAcc := 0

/-- The cartridge at reset (R47). -/
def Cart.reset (rom : Rom) (variant : Variant) (ramSize : Nat) (ram : Memory) : Cart where
  rom        := rom
  variant    := variant
  ramSize    := ramSize
  ram        := ram
  romBank    := 1
  ramBank    := 0
  bankMode   := false
  ramEnabled := false

/-- The state that construction leaves for given parameters, memories and cartridge (70_reset_and_hazards.md R701, R702). -/
def State.construct (p : Params) (m : InitMem) (cart : Cart) : State where
  regs      := Regs.reset
  ime       := false
  eiDelay   := 0
  halted    := false
  stopped   := false
  haltBug   := false
  fault     := none
  regIF     := 0
  regIE     := 0
  wram      := m.wram
  hram      := m.hram
  dma       := 0
  timer     := Timer.reset
  joypad    := Joypad.reset
  ppu       := Ppu.reset m.vram m.oam
  sound     := Sound.reset m.waveRam
  cart      := cart
  params    := p
  buttonsIn := []
  cycles    := 0
  out       := []

/-- The machine right after reset: the default parameters and the all-zero memories of 00_scope.md R7 (logs 1, 2 and 4), and no
cartridge image, since `CART_ROM` is a launch input without a default (log 3). The empty image selects no banking and no RAM
(20_memory.md R120, R126). -/
def State.reset : State :=
  State.construct Params.default InitMem.zero (Cart.reset ⟨0, []⟩ .noBanking 0 [])

end Sys2Proof.Machine
end

