-- ==== Sys2Proof/Machine/Cart.lean ====
section
/-! DEFINITION. The cartridge: loading, ROM and RAM banking, and the bank-controller registers (spec 20_memory.md R120-R127). -/

namespace Sys2Proof.Machine

/-- A ROM byte by offset; at or beyond the image's length it is 0 (R121, R127). -/
def romByte (r : Rom) (off : Nat) : Byte := if off < r.size then Cells.get r.bytes off else 0

/-- The ROM bank mapped at 0x4000-0x7FFF (R121, R123, R125). Without banking it is bank 1, so that offset and address agree. -/
def Cart.activeBank (c : Cart) : Nat :=
  match c.variant with
  | .noBanking => 1
  | .schemeA => if c.bankMode then c.romBank.toNat else (c.ramBank ++ c.romBank).toNat
  | .schemeB => c.romBank.toNat

/-- The ROM offset of bus address `a` below 0x8000 (R121, R123, R125). -/
def Cart.romOffset (c : Cart) (a : Nat) : Nat :=
  if a < 0x4000 then a else c.activeBank * 0x4000 + (a - 0x4000)

/-- A read of ROM space. -/
def Cart.readRom (c : Cart) (a : Nat) : Byte := romByte c.rom (c.romOffset a)

/-- The RAM offset that bus address 0xA000 + `off` reaches, if it reaches a RAM byte (R121, R124, R125). -/
def Cart.ramOffset (c : Cart) (off : Nat) : Option Nat :=
  match c.variant with
  | .noBanking => if off < c.ramSize then some off else none
  | .schemeA =>
    let k := (if c.bankMode then c.ramBank.toNat else 0) * 0x2000 + off
    if c.ramEnabled && decide (k < c.ramSize) then some k else none
  | .schemeB => if c.ramEnabled then some (off % 512) else none

/-- A read of cartridge RAM space; an address that reaches no RAM byte reads 0. -/
def Cart.readRam (c : Cart) (off : Nat) : Byte :=
  match c.ramOffset off with
  | some k => Cells.get c.ram k
  | none => 0

/-- A write to cartridge RAM space; an address that reaches no RAM byte ignores it. -/
def Cart.writeRam (c : Cart) (off : Nat) (v : Byte) : Cart :=
  match c.ramOffset off with
  | some k => { c with ram := Cells.set c.ram k v }
  | none => c

/-- The RAM-enable test: the low nibble is 0xA (R122, R125). -/
def unlocksRam (v : Byte) : Bool := v &&& 0x0F == 0x0A

/-- A bank number with 0 replaced by 1 (R122, R125). -/
def clampBank (b : BitVec 5) : BitVec 5 := if b = 0 then 1 else b

/-- A write to scheme A's registers (R122). -/
def Cart.writeControlA (c : Cart) (a : Nat) (v : Byte) : Cart :=
  if a < 0x2000 then { c with ramEnabled := unlocksRam v }
  else if a < 0x4000 then { c with romBank := clampBank (Byte.field v 0 5) }
  else if a < 0x6000 then { c with ramBank := Byte.field v 0 2 }
  else { c with bankMode := Byte.bit v 0 }

/-- A write to scheme B's registers: address bit 8 chooses (R125). -/
def Cart.writeControlB (c : Cart) (a : Nat) (v : Byte) : Cart :=
  if 0x4000 ≤ a then c
  else if a / 256 % 2 = 0 then { c with ramEnabled := unlocksRam v }
  else { c with romBank := clampBank ((Byte.field v 0 4).zeroExtend 5) }

/-- A write to ROM space changes no ROM byte; it reaches the bank controller (R121, R122, R125, R127). -/
def Cart.writeControl (c : Cart) (a : Nat) (v : Byte) : Cart :=
  match c.variant with
  | .noBanking => c
  | .schemeA => c.writeControlA a v
  | .schemeB => c.writeControlB a v

/-- Why no machine is built. -/
inductive LoadError where
  | unknownCartridgeType (byte : Byte)
  deriving DecidableEq, Repr

/-- The type table of R120. -/
def variantOf (byte : Byte) : Option Variant :=
  if byte = 0x00 ∨ byte = 0x08 ∨ byte = 0x09 then some .noBanking
  else if byte = 0x01 ∨ byte = 0x02 ∨ byte = 0x03 then some .schemeA
  else if byte = 0x05 ∨ byte = 0x06 then some .schemeB
  else none

/-- The header byte 0x0147; an image shorter than 0x0150 bytes reads 0 there (R120). -/
def typeByte (r : Rom) : Byte := if r.size < 0x150 then 0 else romByte r 0x147

/-- The RAM sizes of R126. -/
def ramSizeOf (code : Byte) : Nat :=
  if code = 0x01 then 2 * 1024
  else if code = 0x02 then 8 * 1024
  else if code = 0x03 then 32 * 1024
  else if code = 0x04 then 128 * 1024
  else if code = 0x05 then 64 * 1024
  else 0

/-- The size of a cartridge's RAM: 512 bytes in scheme B whatever the header says, else by header byte 0x0149 (R121, R125,
R126). -/
def cartRamSize (r : Rom) : Variant → Nat
  | .schemeB => 512
  | _ => ramSizeOf (romByte r 0x149)

/-- Construction of the machine from the launch inputs (70_reset_and_hazards.md R701). An unknown cartridge type builds no
machine (R120). -/
def State.load (p : Params) (m : InitMem) (rom : Rom) : Except LoadError State :=
  match variantOf (typeByte rom) with
  | some variant => .ok (State.construct p m (Cart.reset rom variant (cartRamSize rom variant) m.cartRam))
  | none => .error (.unknownCartridgeType (typeByte rom))

end Sys2Proof.Machine
end

