-- ==== Sys2Proof/Machine/Joypad.lean ====
section
/-! DEFINITION. The interrupt controller's bit set and the joypad (spec 60_exceptions.md R460, R461, R470, R530, R531). -/

namespace Sys2Proof.Machine

/-- `req(i)`, the controller's fire operation (R470). -/
def req (i : Nat) (s : State) : State := { s with regIF := Byte.setBit s.regIF i }

/-- `req(i)` when a condition holds. -/
def reqIf (b : Bool) (i : Nat) (s : State) : State := if b then req i s else s

/-- `pending = IE & IF & 0x1F` (R461). -/
def State.pending (s : State) : Byte := s.regIE &&& s.regIF &&& 0x1F

/-- A read of P1 (R530): a line reads 0 when a button of a selected group is pressed. -/
def Joypad.read (j : Joypad) : Byte :=
  let dirs : BitVec 4 := if j.sel.getLsbD 0 then 0xF else ~~~(Byte.field j.buttons 0 4)
  let btns : BitVec 4 := if j.sel.getLsbD 1 then 0xF else ~~~(Byte.field j.buttons 4 4)
  (0b11 : BitVec 2) ++ j.sel ++ (0xF &&& dirs &&& btns)

/-- A write of P1 stores the select bits only (R530). -/
def Joypad.write (j : Joypad) (v : Byte) : Joypad := { j with sel := Byte.field v 4 2 }

/-- The host sets a new button mask (R531): a newly pressed button requests the Joypad interrupt. -/
def setButtons (mask : Byte) (s : State) : State :=
  reqIf (mask &&& ~~~s.joypad.buttons != 0) 4 { s with joypad := { s.joypad with buttons := mask } }

/-- Before a machine step the oldest waiting mask of the host is applied; without one the buttons stay (R142, R531; log 6). -/
def pollButtons (s : State) : State :=
  match s.buttonsIn with
  | [] => s
  | mask :: rest => setButtons mask { s with buttonsIn := rest }

end Sys2Proof.Machine
end

