-- ==== Sys2Proof/Machine/Picture.lean ====
section
/-! DEFINITION. The picture unit (spec 61_picture_unit.md R550-R592): rendering and the scanline state machine. -/

namespace Sys2Proof.Machine

/-- The mode number of STAT bits 1..0 (R553). -/
def Mode.number : Mode → BitVec 2
  | .hblank => 0
  | .vblank => 1
  | .oamScan => 2
  | .transfer => 3

/-- The cycles a mode lasts (R560). -/
def Mode.cycles : Mode → Nat
  | .oamScan => 80
  | .transfer => 172
  | .hblank => 204
  | .vblank => 456

/-- A read of STAT (R552): bit 7 reads 0. -/
def Ppu.readStat (p : Ppu) : Byte := (0 : BitVec 1) ++ p.statSrc ++ BitVec.ofBool p.coincidence ++ p.mode.number

/-- A write of STAT stores bits 6..3 only (R552). -/
def Ppu.writeStat (p : Ppu) (v : Byte) : Ppu := { p with statSrc := Byte.field v 3 4 }

/-! ## Rendering -/

/-- `V(a)`: the VRAM byte at bus address `a` (R570). -/
def Ppu.vramByte (p : Ppu) (a : Word) : Byte := Cells.get p.vram (a - 0x8000).toNat

/-- The colour index of column bit `b` of a tile row, from its two bitplane bytes (R570). -/
def planeColour (p : Ppu) (row : Word) (b : Nat) : BitVec 2 :=
  BitVec.ofBool (Byte.bit (p.vramByte (row + 1)) b) ++ BitVec.ofBool (Byte.bit (p.vramByte row) b)

/-- `(palette >> (2 × c)) & 3` (R554). -/
def paletteShade (pal : Byte) (c : BitVec 2) : BitVec 2 := Byte.field pal (2 * c.toNat) 2

/-- The base address of the background tile map (R551, R570). -/
def Ppu.mapBase (p : Ppu) : Word := if Byte.bit p.lcdc 3 then 0x9C00 else 0x9800

/-- The address of background tile `idx` (R551, R570). -/
def Ppu.tileBase (p : Ppu) (idx : Byte) : Word :=
  if Byte.bit p.lcdc 4 then 0x8000 + Byte.zext idx * 16 else 0x9000 + Byte.sext idx * 16

/-- The background colour index of pixel `px` of line `ly` (R570). -/
def Ppu.bgColour (p : Ppu) (ly : Byte) (px : Nat) : BitVec 2 :=
  let y : Byte := ly + p.scy
  let x : Byte := BitVec.ofNat 8 px + p.scx
  let idx := p.vramByte (p.mapBase + BitVec.ofNat 16 (y.toNat / 8 * 32 + x.toNat / 8))
  planeColour p (p.tileBase idx + BitVec.ofNat 16 (y.toNat % 8 * 2)) (7 - x.toNat % 8)

/-- Writes a pixel of the frame buffer. -/
def Ppu.setPixel (p : Ppu) (ly : Byte) (px : Nat) (shade : BitVec 2) : Ppu :=
  { p with fb := Cells.set p.fb (160 * ly.toNat + px) shade }

/-- One turn of R570's loop. -/
def renderBgPixel (ly : Byte) (p : Ppu) (px : Nat) : Ppu :=
  let c := p.bgColour ly px
  { p with bgIndex := Cells.set p.bgIndex px c }.setPixel ly px (paletteShade p.bgp c)

/-- `RenderLine`, background part (R570). -/
def renderBackground (ly : Byte) (p : Ppu) : Ppu := (List.range 160).foldl (renderBgPixel ly) p

/-- Byte `k` of OAM entry `n` (R575). -/
def Ppu.oamByte (p : Ppu) (n k : Nat) : Byte := Cells.get p.oam (4 * n + k)

/-- The palette of a sprite pixel (R554, R575, parameter `OBJ_PALETTE`). -/
def spritePalette (q : Params) (p : Ppu) (attr : Byte) : Byte :=
  match q.objPalette with
  | .obp => if Byte.bit attr 4 then p.obp1 else p.obp0
  | .bgp => p.bgp

/-- Whether the background hides a sprite pixel (R575, parameter `OBJ_BG_PRIORITY_MODE`). -/
def spriteHidden (q : Params) (p : Ppu) (attr : Byte) (px : Nat) : Bool :=
  Byte.bit attr 7 &&
    match q.objBgPriorityMode with
    | .docLiteral => Cells.get p.bgIndex px == 0
    | .dmg => Cells.get p.bgIndex px != 0

/-- The row of sprite `n`'s tile that line `ly` shows, if its 8-row box meets the line (R575, parameter `OBJ_YFLIP`). -/
def spriteRow (q : Params) (p : Ppu) (ly : Byte) (n : Nat) : Option Nat :=
  let sy : Int := (p.oamByte n 0).toNat - 16
  let row : Int := ly.toNat - sy
  if sy ≤ ly.toNat ∧ (ly.toNat : Int) < sy + 8 then
    some (if q.objYFlip && Byte.bit (p.oamByte n 3) 6 then 7 - row.toNat else row.toNat)
  else none

/-- One turn of R575's inner loop: column `col` of sprite `n`, whose tile row is `row`. -/
def renderSpritePixel (q : Params) (ly : Byte) (n row : Nat) (p : Ppu) (col : Nat) : Ppu :=
  let attr := p.oamByte n 3
  let px : Int := (p.oamByte n 1).toNat - 8 + col
  let tileRow : Word := 0x8000 + Byte.zext (p.oamByte n 2) * 16 + BitVec.ofNat 16 (row * 2)
  let c := planeColour p tileRow (if Byte.bit attr 5 then col else 7 - col)
  if px < 0 ∨ 159 < px then p
  else if c = 0 then p
  else if spriteHidden q p attr px.toNat then p
  else p.setPixel ly px.toNat (paletteShade (spritePalette q p attr) c)

/-- One turn of R575's outer loop. -/
def renderSprite (q : Params) (ly : Byte) (p : Ppu) (n : Nat) : Ppu :=
  match spriteRow q p ly n with
  | some row => (List.range 8).foldl (renderSpritePixel q ly n row) p
  | none => p

/-- `RenderLine`, sprite part (R575). -/
def renderSprites (q : Params) (ly : Byte) (p : Ppu) : Ppu := (List.range 40).foldl (renderSprite q ly) p

/-- `RenderLine(ly)`: the background, then the sprites if LCDC[1] = 1 (R570, R575). -/
def renderLine (q : Params) (ly : Byte) (p : Ppu) : Ppu :=
  let p := renderBackground ly p
  if Byte.bit p.lcdc 1 then renderSprites q ly p else p

/-! ## The scanline state machine -/

/-- Leaves the current mode for `m`, carrying the cycles past the threshold (R560). -/
def enterMode (m : Mode) (s : State) : State :=
  { s with ppu := { s.ppu with mode := m, modeClock := s.ppu.modeClock - s.ppu.mode.cycles } }

/-- Enters OAM scan, requesting LcdStat if the mode-2 source is enabled (R553, R560). -/
def enterOamScan (s : State) : State := reqIf (s.ppu.statSrc.getLsbD 2) 1 (enterMode .oamScan s)

/-- Enters HBlank, requesting LcdStat if the mode-0 source is enabled (R553, R560). -/
def enterHblank (s : State) : State := reqIf (s.ppu.statSrc.getLsbD 0) 1 (enterMode .hblank s)

/-- `PresentFrame()` hands a copy of the frame buffer to the host (R592; log 7). -/
def presentFrame (s : State) : State := { s with out := s.out ++ [.frame s.ppu.fb] }

/-- Enters VBlank: requests Vblank, and LcdStat if the mode-1 source is enabled, and presents the frame (R560). -/
def enterVblank (s : State) : State :=
  presentFrame (reqIf (s.ppu.statSrc.getLsbD 1) 1 (req 0 (enterMode .vblank s)))

/-- `LY <- v`. -/
def setLy (v : Byte) (s : State) : State := { s with ppu := { s.ppu with ly := v } }

/-- Renders the current line if LCDC[7] = 1 (R560). -/
def renderCurrent (s : State) : State :=
  if Byte.bit s.ppu.lcdc 7 then { s with ppu := renderLine s.params s.ppu.ly s.ppu } else s

/-- What ends the current mode does (R560). -/
def leaveMode (s : State) : State :=
  match s.ppu.mode with
  | .oamScan => enterMode .transfer s
  | .transfer => enterHblank (renderCurrent s)
  | .hblank =>
    if s.ppu.ly + 1 = 144 then enterVblank (setLy (s.ppu.ly + 1) s)
    else enterOamScan (setLy (s.ppu.ly + 1) s)
  | .vblank =>
    if s.ppu.ly + 1 = 154 then enterOamScan (setLy 0 s)
    else enterMode .vblank (setLy (s.ppu.ly + 1) s)

/-- `LycCheck()` (R565, parameter `LYC_MODE`). -/
def lycCheck (s : State) : State :=
  let eq := s.ppu.ly == s.ppu.lyc
  let fire := eq && s.ppu.statSrc.getLsbD 3 &&
    match s.params.lycMode with
    | .level => true
    | .edge => !s.ppu.lycPrev
  reqIf fire 1 { s with ppu := { s.ppu with coincidence := eq, lycPrev := eq } }

/-- `PpuAdvance(n)` (R560). -/
def ppuAdvance (n : Nat) (s : State) : State :=
  let s := { s with ppu := { s.ppu with modeClock := s.ppu.modeClock + n } }
  lycCheck (if s.ppu.mode.cycles ≤ s.ppu.modeClock then leaveMode s else s)

end Sys2Proof.Machine
end

