-- ==== Sys2Proof/Machine/Sound.lean ====
section
/-! DEFINITION. The sound unit (spec 62_sound_unit.md R620-R672). -/

namespace Sys2Proof.Machine

/-! ## Registers -/

/-- The sound registers by name (R621). -/
inductive SoundReg where
  | nr10 | nr11 | nr12 | nr13 | nr14
  | nr21 | nr22 | nr23 | nr24
  | nr30 | nr31 | nr32 | nr33 | nr34
  | nr41 | nr42 | nr43 | nr44
  | nr50 | nr51 | nr52
  deriving DecidableEq, Repr

/-- Stores a byte in a sound register; of NR52 only bit 7 is stored (R622). -/
def SoundRegs.store (g : SoundRegs) (r : SoundReg) (v : Byte) : SoundRegs :=
  match r with
  | .nr10 => { g with nr10 := v }
  | .nr11 => { g with nr11 := v }
  | .nr12 => { g with nr12 := v }
  | .nr13 => { g with nr13 := v }
  | .nr14 => { g with nr14 := v }
  | .nr21 => { g with nr21 := v }
  | .nr22 => { g with nr22 := v }
  | .nr23 => { g with nr23 := v }
  | .nr24 => { g with nr24 := v }
  | .nr30 => { g with nr30 := v }
  | .nr31 => { g with nr31 := v }
  | .nr32 => { g with nr32 := v }
  | .nr33 => { g with nr33 := v }
  | .nr34 => { g with nr34 := v }
  | .nr41 => { g with nr41 := v }
  | .nr42 => { g with nr42 := v }
  | .nr43 => { g with nr43 := v }
  | .nr44 => { g with nr44 := v }
  | .nr50 => { g with nr50 := v }
  | .nr51 => { g with nr51 := v }
  | .nr52 => { g with master := Byte.bit v 7 }

/-- A read of NR52: the master bit and the channels' status (R623). -/
def Sound.readNr52 (x : Sound) : Byte :=
  BitVec.ofBool x.regs.master ++ (0 : BitVec 3) ++ BitVec.ofBool x.ch4.ch.enabled ++ BitVec.ofBool x.ch3.ch.enabled ++
    BitVec.ofBool x.ch2.ch.enabled ++ BitVec.ofBool x.ch1.ch.enabled

/-- A read of a sound register: the byte last stored, except NR52 (R623). -/
def Sound.read (x : Sound) : SoundReg → Byte
  | .nr10 => x.regs.nr10
  | .nr11 => x.regs.nr11
  | .nr12 => x.regs.nr12
  | .nr13 => x.regs.nr13
  | .nr14 => x.regs.nr14
  | .nr21 => x.regs.nr21
  | .nr22 => x.regs.nr22
  | .nr23 => x.regs.nr23
  | .nr24 => x.regs.nr24
  | .nr30 => x.regs.nr30
  | .nr31 => x.regs.nr31
  | .nr32 => x.regs.nr32
  | .nr33 => x.regs.nr33
  | .nr34 => x.regs.nr34
  | .nr41 => x.regs.nr41
  | .nr42 => x.regs.nr42
  | .nr43 => x.regs.nr43
  | .nr44 => x.regs.nr44
  | .nr50 => x.regs.nr50
  | .nr51 => x.regs.nr51
  | .nr52 => x.readNr52

/-- The 11-bit frequency `(NRx4[2:0] << 8) | NRx3` (R621). -/
def frequency (nrx4 nrx3 : Byte) : BitVec 11 := Byte.field nrx4 0 3 ++ nrx3

/-- The frequencies of channels 1, 2 and 3. -/
def SoundRegs.f1 (g : SoundRegs) : BitVec 11 := frequency g.nr14 g.nr13
def SoundRegs.f2 (g : SoundRegs) : BitVec 11 := frequency g.nr24 g.nr23
def SoundRegs.f3 (g : SoundRegs) : BitVec 11 := frequency g.nr34 g.nr33

/-- Whether NRx2 keeps its channel's DAC on (R622, R630). -/
def envDacOn (nrx2 : Byte) : Bool := nrx2 &&& 0xF8 != 0

/-- Whether NR30 keeps channel 3's DAC on (R622, R630). -/
def waveDacOn (nr30 : Byte) : Bool := Byte.bit nr30 7

/-! ## Periods (R640, R655) -/

/-- The period of a pulse channel. -/
def pulsePeriod (f : BitVec 11) : Nat := (2048 - f.toNat) * 4

/-- The period of the wavetable channel. -/
def wavePeriod (f : BitVec 11) : Nat := (2048 - f.toNat) * 2

/-- The noise divisor of code `r` (R655). -/
def noiseDivisor (r : BitVec 3) : Nat := if r = 0 then 8 else 16 * r.toNat

/-- The period of the noise channel: the divisor of NR43[2:0] shifted left by NR43[7:4] (R655). -/
def noisePeriod (nr43 : Byte) : Nat := noiseDivisor (Byte.field nr43 0 3) <<< (Byte.field nr43 4 4).toNat

/-! ## Sweep (R650-R652) -/

/-- The sweep parameters. -/
structure SweepParams where
  period : BitVec 3
  negate : Bool
  shift  : BitVec 3
  deriving DecidableEq, Repr

/-- Channel 1 reads its sweep parameters from NR10 (R650). -/
def sweepParams1 (g : SoundRegs) : SweepParams := ⟨Byte.field g.nr10 4 3, Byte.bit g.nr10 3, Byte.field g.nr10 0 3⟩

/-- Channel 2 has no sweep register: its parameters are always 0 (R650). -/
def sweepParams2 : SweepParams := ⟨0, false, 0⟩

/-- `SweepCalc` (R651). A subtraction never goes below 0. -/
def sweepCalc (q : SweepParams) (shadow : BitVec 11) : Nat :=
  let d := shadow.toNat >>> q.shift.toNat
  if q.negate then shadow.toNat - d else shadow.toNat + d

/-- What the sweep timer is reloaded with (R651, R652). -/
def sweepReload (q : SweepParams) : Int := if q.period = 0 then 8 else (q.period.toNat : Int)

/-- Disables a pulse channel when a condition holds. -/
def Pulse.disableIf (b : Bool) (c : Pulse) : Pulse := if b then { c with ch := { c.ch with enabled := false } } else c

/-- `SweepTrigger(ch)` (R652). -/
def Pulse.sweepTrigger (q : SweepParams) (f : BitVec 11) (c : Pulse) : Pulse :=
  { c with sweep := { enabled := q.period != 0 || q.shift != 0, shadow := f, timer := sweepReload q } }.disableIf
    (q.shift != 0 && decide (2047 < sweepCalc q f))

/-- `SweepTick(ch)` (R651), with the frequency to write back to NRx3 and NRx4, if any. -/
def Pulse.sweepTick (q : SweepParams) (c : Pulse) : Pulse × Option (BitVec 11) :=
  if !c.sweep.enabled then (c, none)
  else if 0 < c.sweep.timer - 1 then ({ c with sweep := { c.sweep with timer := c.sweep.timer - 1 } }, none)
  else
    let c := { c with sweep := { c.sweep with timer := sweepReload q } }
    let new := sweepCalc q c.sweep.shadow
    if q.period = 0 then (c, none)
    else if 2047 < new then (c.disableIf true, none)
    else if q.shift = 0 then (c, none)
    else
      let f := BitVec.ofNat 11 new
      ({ c with sweep := { c.sweep with shadow := f } }.disableIf (decide (2047 < sweepCalc q f)), some f)

/-! ## Trigger (R630) -/

/-- The common part of `Trigger(ch)`: the DAC decides `enabled`, an expired length reloads, the timer is reloaded. -/
def Channel.trigger (dacOn : Bool) (fullLength period : Nat) (c : Channel) : Channel where
  enabled       := dacOn
  timer         := period
  lengthEnabled := c.lengthEnabled
  length        := if c.length = 0 then fullLength else c.length

/-- The envelope latched from NRx2. -/
def Envelope.trigger (nrx2 : Byte) : Envelope where
  vol    := Byte.field nrx2 4 4
  dir    := Byte.bit nrx2 3
  period := Byte.field nrx2 0 3
  timer  := (Byte.field nrx2 0 3).toNat

/-- `Trigger` of a pulse channel. -/
def Pulse.trigger (nrx2 : Byte) (f : BitVec 11) (q : SweepParams) (c : Pulse) : Pulse :=
  { c with
      ch      := c.ch.trigger (envDacOn nrx2) 64 (pulsePeriod f)
      dutyPos := 0
      env     := Envelope.trigger nrx2 }.sweepTrigger q f

/-- `Trigger` of the wavetable channel. -/
def Wave.trigger (nr30 : Byte) (f : BitVec 11) (c : Wave) : Wave where
  ch      := c.ch.trigger (waveDacOn nr30) 256 (wavePeriod f)
  wavePos := 0

/-- `Trigger` of the noise channel. -/
def Noise.trigger (nr42 nr43 : Byte) (c : Noise) : Noise where
  ch   := c.ch.trigger (envDacOn nr42) 64 (noisePeriod nr43)
  lfsr := 0x7FFF
  env  := Envelope.trigger nr42

/-! ## Register writes (R622) -/

/-- Loads a length counter. -/
def Channel.loadLength (k : Nat) (c : Channel) : Channel := { c with length := k }

/-- A write of NRx4: bit 6 is the length enable. -/
def Channel.setLengthEnabled (v : Byte) (c : Channel) : Channel := { c with lengthEnabled := Byte.bit v 6 }

/-- Turns a channel off when its DAC is off. -/
def Channel.gate (dacOn : Bool) (c : Channel) : Channel := { c with enabled := c.enabled && dacOn }

/-- The length that the six-bit load of NR11, NR21 and NR41 gives. -/
def shortLength (v : Byte) : Nat := 64 - (Byte.field v 0 6).toNat

/-- A write of a sound register: the byte is stored, then has its effects (R622). -/
def Sound.write (x : Sound) (r : SoundReg) (v : Byte) : Sound :=
  let x := { x with regs := x.regs.store r v }
  match r with
  | .nr11 => { x with ch1 := { x.ch1 with ch := x.ch1.ch.loadLength (shortLength v) } }
  | .nr21 => { x with ch2 := { x.ch2 with ch := x.ch2.ch.loadLength (shortLength v) } }
  | .nr31 => { x with ch3 := { x.ch3 with ch := x.ch3.ch.loadLength (256 - v.toNat) } }
  | .nr41 => { x with ch4 := { x.ch4 with ch := x.ch4.ch.loadLength (shortLength v) } }
  | .nr12 => { x with ch1 := { x.ch1 with ch := x.ch1.ch.gate (envDacOn v) } }
  | .nr22 => { x with ch2 := { x.ch2 with ch := x.ch2.ch.gate (envDacOn v) } }
  | .nr30 => { x with ch3 := { x.ch3 with ch := x.ch3.ch.gate (waveDacOn v) } }
  | .nr42 => { x with ch4 := { x.ch4 with ch := x.ch4.ch.gate (envDacOn v) } }
  | .nr14 =>
    let c := { x.ch1 with ch := x.ch1.ch.setLengthEnabled v }
    { x with ch1 := if Byte.bit v 7 then c.trigger x.regs.nr12 x.regs.f1 (sweepParams1 x.regs) else c }
  | .nr24 =>
    let c := { x.ch2 with ch := x.ch2.ch.setLengthEnabled v }
    { x with ch2 := if Byte.bit v 7 then c.trigger x.regs.nr22 x.regs.f2 sweepParams2 else c }
  | .nr34 =>
    let c := { x.ch3 with ch := x.ch3.ch.setLengthEnabled v }
    { x with ch3 := if Byte.bit v 7 then c.trigger x.regs.nr30 x.regs.f3 else c }
  | .nr44 =>
    let c := { x.ch4 with ch := x.ch4.ch.setLengthEnabled v }
    { x with ch4 := if Byte.bit v 7 then c.trigger x.regs.nr42 x.regs.nr43 else c }
  | .nr10 | .nr13 | .nr23 | .nr32 | .nr33 | .nr43 | .nr50 | .nr51 | .nr52 => x

/-! ## Advance (R640-R655) -/

/-- `FreqAdvance`'s loop (R641): the timer after `n` cycles, and how many times it was reloaded with `period`. -/
def timerAdvanceBy (n period : Nat) (timer : Int) : Int × Nat :=
  let t := timer - n
  if t ≤ 0 then
    let k := (-t).toNat / period + 1
    (t + (k * period : Nat), k)
  else (t, 0)

/-- `LengthTick(ch)` (R645). -/
def Channel.lengthTick (c : Channel) : Channel :=
  if c.lengthEnabled && decide (0 < c.length) then
    { c with length := c.length - 1, enabled := c.enabled && decide (c.length ≠ 1) }
  else c

/-- `EnvelopeTick(ch)` (R648). -/
def Envelope.tick (e : Envelope) : Envelope :=
  if e.period = 0 then e
  else if e.timer - 1 = 0 then
    { e with
        timer := e.period.toNat
        vol   := if e.dir then (if e.vol = 15 then e.vol else e.vol + 1) else (if e.vol = 0 then e.vol else e.vol - 1) }
  else { e with timer := e.timer - 1 }

/-- `LfsrStep()` (R655). -/
def lfsrStep (narrow : Bool) (l : BitVec 15) : BitVec 15 :=
  let x : BitVec 15 := BitVec.ofBool (l.getLsbD 0 ^^ l.getLsbD 1) |>.zeroExtend 15
  let l := (l >>> 1) ||| (x <<< 14)
  if narrow then (l &&& ~~~(0x0040 : BitVec 15)) ||| (x <<< 6) else l

/-- The ticks a frame-sequencer step fires (R640). -/
def firesLength (fire : Option (BitVec 3)) : Bool := fire == some 0 || fire == some 2 || fire == some 4 || fire == some 6
def firesSweep (fire : Option (BitVec 3)) : Bool := fire == some 2 || fire == some 6
def firesEnvelope (fire : Option (BitVec 3)) : Bool := fire == some 7

/-- `FreqAdvance` of a pulse channel (R641). -/
def Pulse.freqAdvance (n : Nat) (f : BitVec 11) (c : Pulse) : Pulse :=
  let r := timerAdvanceBy n (pulsePeriod f) c.ch.timer
  { c with ch := { c.ch with timer := r.1 }, dutyPos := c.dutyPos + BitVec.ofNat 3 r.2 }

/-- `FreqAdvance` of the wavetable channel (R641). -/
def Wave.freqAdvance (n : Nat) (f : BitVec 11) (c : Wave) : Wave :=
  let r := timerAdvanceBy n (wavePeriod f) c.ch.timer
  { c with ch := { c.ch with timer := r.1 }, wavePos := c.wavePos + BitVec.ofNat 5 r.2 }

/-- `FreqAdvance` of the noise channel (R641). -/
def Noise.freqAdvance (n : Nat) (nr43 : Byte) (c : Noise) : Noise :=
  let r := timerAdvanceBy n (noisePeriod nr43) c.ch.timer
  { c with ch := { c.ch with timer := r.1 }, lfsr := (lfsrStep (Byte.bit nr43 3))^[r.2] c.lfsr }

/-- `NRx4[2:0] <- new[10:8]` (R651). -/
def withFreqHigh (nrx4 : Byte) (f : BitVec 11) : Byte := Byte.field nrx4 3 5 ++ f.extractLsb' 8 3

/-- The sweep's write-back to NR13 and NR14, and to NR23 and NR24 (R651). -/
def SoundRegs.writeBack1 (g : SoundRegs) : Option (BitVec 11) → SoundRegs
  | some f => { g with nr13 := f.extractLsb' 0 8, nr14 := withFreqHigh g.nr14 f }
  | none => g
def SoundRegs.writeBack2 (g : SoundRegs) : Option (BitVec 11) → SoundRegs
  | some f => { g with nr23 := f.extractLsb' 0 8, nr24 := withFreqHigh g.nr24 f }
  | none => g

/-- A pulse channel's ticks of a frame-sequencer step, in the order of R640: length, sweep, envelope; with the sweep's
write-back. -/
def Pulse.sequence (fire : Option (BitVec 3)) (q : SweepParams) (c : Pulse) : Pulse × Option (BitVec 11) :=
  let c := if firesLength fire then { c with ch := c.ch.lengthTick } else c
  let r := if firesSweep fire then c.sweepTick q else (c, none)
  (if firesEnvelope fire then { r.1 with env := r.1.env.tick } else r.1, r.2)

/-- The advance of channel 1 (R640). -/
def Sound.advance1 (n : Nat) (fire : Option (BitVec 3)) (x : Sound) : Sound :=
  let r := x.ch1.sequence fire (sweepParams1 x.regs)
  let g := x.regs.writeBack1 r.2
  { x with regs := g, ch1 := r.1.freqAdvance n g.f1 }

/-- The advance of channel 2 (R640). -/
def Sound.advance2 (n : Nat) (fire : Option (BitVec 3)) (x : Sound) : Sound :=
  let r := x.ch2.sequence fire sweepParams2
  let g := x.regs.writeBack2 r.2
  { x with regs := g, ch2 := r.1.freqAdvance n g.f2 }

/-- The advance of channel 3 (R640). -/
def Sound.advance3 (n : Nat) (fire : Option (BitVec 3)) (x : Sound) : Sound :=
  let c := if firesLength fire then { x.ch3 with ch := x.ch3.ch.lengthTick } else x.ch3
  { x with ch3 := c.freqAdvance n x.regs.f3 }

/-- The advance of channel 4 (R640). -/
def Sound.advance4 (n : Nat) (fire : Option (BitVec 3)) (x : Sound) : Sound :=
  let c := if firesLength fire then { x.ch4 with ch := x.ch4.ch.lengthTick } else x.ch4
  let c := if firesEnvelope fire then { c with env := c.env.tick } else c
  { x with ch4 := c.freqAdvance n x.regs.nr43 }

/-- The frame sequencer's step that an advance of `n` cycles fires, if any (R640). -/
def Sound.fires (n : Nat) (x : Sound) : Option (BitVec 3) := if 8192 ≤ x.fsAcc + n then some x.fsStep else none

/-- The frame sequencer after `n` cycles (R640). -/
def Sound.sequencer (n : Nat) (x : Sound) : Sound :=
  if 8192 ≤ x.fsAcc + n then { x with fsAcc := x.fsAcc + n - 8192, fsStep := x.fsStep + 1 }
  else { x with fsAcc := x.fsAcc + n }

/-- `SoundAdvance(n)` without its last line, the sample cadence (R640). -/
def Sound.advance (n : Nat) (x : Sound) : Sound :=
  let fire := x.fires n
  ((((x.sequencer n).advance1 n fire).advance2 n fire).advance3 n fire).advance4 n fire

/-! ## Output (R660-R672) -/

/-- The duty table of R660: bit `7 - pos` of each row is position `pos`. -/
def dutyRow (code : BitVec 2) : BitVec 8 :=
  match code.toNat with
  | 0 => 0b00000001
  | 1 => 0b10000001
  | 2 => 0b10000111
  | _ => 0b01111110

/-- `Duty[code][pos]`. -/
def dutyHigh (code : BitVec 2) (pos : BitVec 3) : Bool := (dutyRow code).getLsbD (7 - pos.toNat)

/-- The level of a pulse channel (R660). -/
def Pulse.level (nrx1 : Byte) (c : Pulse) : BitVec 4 :=
  if c.ch.enabled && dutyHigh (Byte.field nrx1 6 2) c.dutyPos then c.env.vol else 0

/-- Sample `k` of the wave table: the high nibble first (R660). -/
def Sound.waveSample (x : Sound) (k : BitVec 5) : BitVec 4 :=
  let byte := Cells.get x.waveRam (k.toNat / 2)
  if k.toNat % 2 = 0 then Byte.field byte 4 4 else Byte.field byte 0 4

/-- The volume shift of NR32[6:5]: mute, full, half, quarter (R660). -/
def waveShift (code : BitVec 2) : Nat :=
  match code.toNat with
  | 0 => 4
  | 1 => 0
  | 2 => 1
  | _ => 2

/-- The level of the wavetable channel (R660). -/
def Sound.waveLevel (x : Sound) : BitVec 4 :=
  if x.ch3.ch.enabled then x.waveSample x.ch3.wavePos >>> waveShift (Byte.field x.regs.nr32 5 2) else 0

/-- The level of the noise channel: NOT lfsr[0] times the volume (R660). -/
def Noise.level (c : Noise) : BitVec 4 := if c.ch.enabled && !c.lfsr.getLsbD 0 then c.env.vol else 0

/-- `DAC_OUT(level)` if the enable bit is set, else nothing to the sum (R670). -/
def gated (on : Bool) (level : BitVec 4) : Rat := if on then Config.dacOut level else 0

/-- One side of the mix, quartered; its enable bits are NR51[base] to NR51[base+3] for channels 1 to 4 (R670). -/
def Sound.side (x : Sound) (base : Nat) : Rat :=
  (gated (Byte.bit x.regs.nr51 base) (x.ch1.level x.regs.nr11) +
    gated (Byte.bit x.regs.nr51 (base + 1)) (x.ch2.level x.regs.nr21) +
    gated (Byte.bit x.regs.nr51 (base + 2)) x.waveLevel +
    gated (Byte.bit x.regs.nr51 (base + 3)) x.ch4.level) / 4

/-- `Mix()` (R670): left from NR51[7:4], right from NR51[3:0], muted when the master enable is off. -/
def Sound.mix (x : Sound) : BitVec 16 × BitVec 16 :=
  if x.regs.master then Config.mixQuant (x.side 4) (x.side 0) x.regs.nr50 else (0, 0)

/-- `SampleCadence(n)` (R672): one sample pair for every whole period, the cycles counted in units of
1 / `samplePeriodDen` (log 4). -/
def sampleCadence (n : Nat) (s : State) : State :=
  let acc := s.sound.sampleAcc + n * s.params.samplePeriodDen
  let k := acc / s.params.samplePeriodNum
  let pair := s.sound.mix
  { s with
      sound := { s.sound with sampleAcc := acc - k * s.params.samplePeriodNum }
      out   := s.out ++ List.replicate k (.sample pair.1 pair.2) }

/-- `SoundAdvance(n)` (R640). -/
def soundAdvance (n : Nat) (s : State) : State := sampleCadence n { s with sound := s.sound.advance n }

end Sys2Proof.Machine
end

