-- ==== Sys2Proof/Machine/Timer.lean ====
section
/-! DEFINITION. The timer (spec 60_exceptions.md R510, R511). The loops of R510 are written as their number of turns. -/

namespace Sys2Proof.Machine

/-- The cycles per TIMA increment, by the speed code TAC[1:0] (R510). -/
def timaPeriod (tac : Byte) : Nat :=
  match (Byte.field tac 0 2).toNat with
  | 0 => 1024
  | 1 => 16
  | 2 => 64
  | _ => 256

/-- One increment of TIMA: an overflow sets it to 0 and is resolved in the next call (R510). -/
def Timer.tick (t : Timer) : Timer :=
  if t.tima = 0xFF then { t with tima := 0, overflowPending := true } else { t with tima := t.tima + 1 }

/-- The divider part of an advance (R510). -/
def Timer.advanceDiv (n : Nat) (t : Timer) : Timer :=
  { t with div := t.div + BitVec.ofNat 8 ((t.divSub + n) / 256), divSub := (t.divSub + n) % 256 }

/-- The counter part of an advance (R510): one `tick` for every whole period; nothing while TAC[2] is 0. -/
def Timer.advanceTima (n : Nat) (t : Timer) : Timer :=
  if Byte.bit t.tac 2 then
    Timer.tick^[(t.timaSub + n) / timaPeriod t.tac] { t with timaSub := (t.timaSub + n) % timaPeriod t.tac }
  else t

/-- A pending overflow is resolved first: TIMA is reloaded and the Timer interrupt requested (R510). -/
def resolveOverflow (s : State) : State :=
  if s.timer.overflowPending then
    req 2 { s with timer := { s.timer with tima := s.timer.tma, overflowPending := false } }
  else s

/-- `TimerAdvance(n)` (R510). -/
def timerAdvance (n : Nat) (s : State) : State :=
  let s := resolveOverflow s
  { s with timer := (s.timer.advanceDiv n).advanceTima n }

/-- Any write to DIV resets it and its sub-counter (R511). -/
def Timer.writeDiv (t : Timer) : Timer := { t with div := 0, divSub := 0 }

end Sys2Proof.Machine
end

