-- ==== Sys2Proof/Machine/Bus.lean ====
section
/-! DEFINITION. The memory bus: the address map and the one-byte read and write (spec 20_memory.md R80-R111). -/

namespace Sys2Proof.Machine

/-- What a bus address belongs to, with its offset where it names storage (R82). -/
inductive Region where
  /-- 0x0000-0x7FFF, the cartridge ROM and its control registers, by address. -/
  | rom (a : Nat)
  /-- 0x8000-0x9FFF -/
  | vram (off : Nat)
  /-- 0xA000-0xBFFF, cartridge RAM, by offset from 0xA000. -/
  | cartRam (off : Nat)
  /-- 0xC000-0xDFFF and its mirror 0xE000-0xFDFF -/
  | wram (off : Nat)
  /-- 0xFE00-0xFE9F -/
  | oam (off : Nat)
  /-- 0xFF30-0xFF3F -/
  | waveRam (off : Nat)
  /-- 0xFF80-0xFFFE -/
  | hram (off : Nat)
  | p1 | div | tima | tma | tac | intFlag | intEnable
  /-- A sound register of 62_sound_unit.md R621. -/
  | sound (r : SoundReg)
  | lcdc | stat | scy | scx | ly | lyc | dma | bgp | obp0 | obp1 | wy | wx
  /-- No owner: a read gives 0 and a write is ignored (R84), the unused 0xFF15 and 0xFF1F among them (R621). -/
  | unmapped
  deriving DecidableEq, Repr

/-- The owner of I/O address 0xFF00 + `k`, `k` below 0x80 (R82; 10_state.md R41, R42; 62_sound_unit.md R621). -/
def ioRegion (k : Nat) : Region :=
  match k with
  | 0x00 => .p1
  | 0x04 => .div
  | 0x05 => .tima
  | 0x06 => .tma
  | 0x07 => .tac
  | 0x0F => .intFlag
  | 0x10 => .sound .nr10
  | 0x11 => .sound .nr11
  | 0x12 => .sound .nr12
  | 0x13 => .sound .nr13
  | 0x14 => .sound .nr14
  | 0x16 => .sound .nr21
  | 0x17 => .sound .nr22
  | 0x18 => .sound .nr23
  | 0x19 => .sound .nr24
  | 0x1A => .sound .nr30
  | 0x1B => .sound .nr31
  | 0x1C => .sound .nr32
  | 0x1D => .sound .nr33
  | 0x1E => .sound .nr34
  | 0x20 => .sound .nr41
  | 0x21 => .sound .nr42
  | 0x22 => .sound .nr43
  | 0x23 => .sound .nr44
  | 0x24 => .sound .nr50
  | 0x25 => .sound .nr51
  | 0x26 => .sound .nr52
  | 0x40 => .lcdc
  | 0x41 => .stat
  | 0x42 => .scy
  | 0x43 => .scx
  | 0x44 => .ly
  | 0x45 => .lyc
  | 0x46 => .dma
  | 0x47 => .bgp
  | 0x48 => .obp0
  | 0x49 => .obp1
  | 0x4A => .wy
  | 0x4B => .wx
  | _ => if 0x30 ≤ k ∧ k < 0x40 then .waveRam (k - 0x30) else .unmapped

/-- The address map of R82, total and without overlaps (R83). -/
def region (a : Word) : Region :=
  let n := a.toNat
  if n < 0x8000 then .rom n
  else if n < 0xA000 then .vram (n - 0x8000)
  else if n < 0xC000 then .cartRam (n - 0xA000)
  else if n < 0xE000 then .wram (n - 0xC000)
  else if n < 0xFE00 then .wram (n - 0xE000)
  else if n < 0xFEA0 then .oam (n - 0xFE00)
  else if n < 0xFF00 then .unmapped
  else if n < 0xFF80 then ioRegion (n - 0xFF00)
  else if n < 0xFFFF then .hram (n - 0xFF80)
  else .intEnable

/-- What a region reads as. -/
def readRegion (s : State) : Region → Byte
  | .rom a => s.cart.readRom a
  | .vram off => Cells.get s.ppu.vram off
  | .cartRam off => s.cart.readRam off
  | .wram off => Cells.get s.wram off
  | .oam off => Cells.get s.ppu.oam off
  | .waveRam off => Cells.get s.sound.waveRam off
  | .hram off => Cells.get s.hram off
  | .p1 => s.joypad.read
  | .div => s.timer.div
  | .tima => s.timer.tima
  | .tma => s.timer.tma
  | .tac => s.timer.tac
  | .intFlag => s.regIF
  | .intEnable => s.regIE
  | .sound r => s.sound.read r
  | .lcdc => s.ppu.lcdc
  | .stat => s.ppu.readStat
  | .scy => s.ppu.scy
  | .scx => s.ppu.scx
  | .ly => s.ppu.ly
  | .lyc => s.ppu.lyc
  | .dma => s.dma
  | .bgp => s.ppu.bgp
  | .obp0 => s.ppu.obp0
  | .obp1 => s.ppu.obp1
  | .wy => s.ppu.wy
  | .wx => s.ppu.wx
  | .unmapped => 0

/-- `MemRead(a, 1)` (R80): a value only, since no read has a side effect (R86). -/
def memRead (s : State) (a : Word) : Byte := readRegion s (region a)

/-- `OAM[i] <- v`. -/
def setOam (i : Nat) (v : Byte) (s : State) : State :=
  { s with ppu := { s.ppu with oam := Cells.set s.ppu.oam i v } }

/-- One turn of the DMA's loop from page `v`: the source is an ordinary bus read of the state as it stands (R110, R111). -/
def dmaByte (v : Byte) (s : State) (i : Nat) : State :=
  setOam i (memRead s (v ++ (0 : Byte) + BitVec.ofNat 16 i)) s

/-- A write of `v` to 0xFF46 stores it, then copies 160 bytes from page `v` to OAM (R110). -/
def writeDma (v : Byte) (s : State) : State := (List.range 160).foldl (dmaByte v) { s with dma := v }

/-- What a write to a region does (R82, R87). -/
def writeRegion (s : State) (v : Byte) : Region → State
  | .rom a => { s with cart := s.cart.writeControl a v }
  | .vram off => { s with ppu := { s.ppu with vram := Cells.set s.ppu.vram off v } }
  | .cartRam off => { s with cart := s.cart.writeRam off v }
  | .wram off => { s with wram := Cells.set s.wram off v }
  | .oam off => setOam off v s
  | .waveRam off => { s with sound := { s.sound with waveRam := Cells.set s.sound.waveRam off v } }
  | .hram off => { s with hram := Cells.set s.hram off v }
  | .p1 => { s with joypad := s.joypad.write v }
  | .div => { s with timer := s.timer.writeDiv }
  | .tima => { s with timer := { s.timer with tima := v } }
  | .tma => { s with timer := { s.timer with tma := v } }
  | .tac => { s with timer := { s.timer with tac := v } }
  | .intFlag => { s with regIF := v }
  | .intEnable => { s with regIE := v }
  | .sound r => { s with sound := s.sound.write r v }
  | .lcdc => { s with ppu := { s.ppu with lcdc := v } }
  | .stat => { s with ppu := s.ppu.writeStat v }
  | .scy => { s with ppu := { s.ppu with scy := v } }
  | .scx => { s with ppu := { s.ppu with scx := v } }
  | .ly => s
  | .lyc => { s with ppu := { s.ppu with lyc := v } }
  | .dma => writeDma v s
  | .bgp => { s with ppu := { s.ppu with bgp := v } }
  | .obp0 => { s with ppu := { s.ppu with obp0 := v } }
  | .obp1 => { s with ppu := { s.ppu with obp1 := v } }
  | .wy => { s with ppu := { s.ppu with wy := v } }
  | .wx => { s with ppu := { s.ppu with wx := v } }
  | .unmapped => s

/-- `MemWrite(a, 1, v)` (R81). -/
def memWrite (a : Word) (v : Byte) (s : State) : State := writeRegion s v (region a)

/-! ## Which reads a write can change -/

/-- Whether a write to region `x` can change what region `y` reads as (R82, R87): storage by its own cell, the banking windows
after a bank-controller write, the first 160 bytes of OAM after a DMA, and NR52's status bits after the sound writes that
switch a channel. -/
def writeAffects (s : State) (x y : Region) : Bool :=
  match x, y with
  | .rom _, .rom a => decide (0x4000 ≤ a) && s.cart.variant != .noBanking
  | .rom _, .cartRam _ => s.cart.variant != .noBanking
  | .cartRam i, .cartRam j => (s.cart.ramOffset i).isSome && s.cart.ramOffset i == s.cart.ramOffset j
  | .dma, .oam off => decide (off < 160)
  | .sound r, .sound .nr52 =>
    r == .nr12 || r == .nr22 || r == .nr30 || r == .nr42 || r == .nr14 || r == .nr24 || r == .nr34 || r == .nr44 || r == .nr52
  | .ly, _ => false
  | .unmapped, _ => false
  | x, y => x == y

/-- Whether a write to address `a` can change what address `b` reads as. -/
def storeAffects (s : State) (a b : Word) : Bool := writeAffects s (region a) (region b)

end Sys2Proof.Machine
end

