-- ==== Sys2Proof/Machine/Ops.lean ====
section
/-! DEFINITION. The named operations over registers, memory and the stack, the retirement of an instruction, and taking an
interrupt and returning from one (spec 10_state.md R30-R35, 30_encoding.md R170 and R171, 40_load.md R240 and R241,
60_exceptions.md R460-R465 and R490). -/

namespace Sys2Proof.Machine

/-! ## Registers -/

/-- `x[r]` of an 8-bit register (R30). -/
def State.getReg (s : State) : Reg8 → Byte
  | .b => s.regs.b
  | .c => s.regs.c
  | .d => s.regs.d
  | .e => s.regs.e
  | .h => s.regs.h
  | .l => s.regs.l
  | .a => s.regs.a

/-- `x[r] <- v` of an 8-bit register. -/
def State.setReg (s : State) (r : Reg8) (v : Byte) : State :=
  match r with
  | .b => { s with regs := { s.regs with b := v } }
  | .c => { s with regs := { s.regs with c := v } }
  | .d => { s with regs := { s.regs with d := v } }
  | .e => { s with regs := { s.regs with e := v } }
  | .h => { s with regs := { s.regs with h := v } }
  | .l => { s with regs := { s.regs with l := v } }
  | .a => { s with regs := { s.regs with a := v } }

/-- The flags byte as it reads: bits 3..0 clear (R32). -/
def State.getF (s : State) : Byte := s.regs.f &&& 0xF0

/-- Every write of F stores `v & 0xF0` (R32). -/
def State.setF (s : State) (v : Byte) : State := { s with regs := { s.regs with f := v &&& 0xF0 } }

/-- HL, the pair of the indirect operand (R31). -/
def State.hl (s : State) : Word := Word.ofBytes s.regs.h s.regs.l

/-- `SP <- v`. -/
def State.setSp (s : State) (v : Word) : State := { s with regs := { s.regs with sp := v } }

/-- `pc <- v`. -/
def State.setPc (s : State) (v : Word) : State := { s with regs := { s.regs with pc := v } }

/-- Reading a pair reads its two registers, the first-named high (R31). -/
def State.getPair (s : State) : Pair16 → Word
  | .bc => Word.ofBytes s.regs.b s.regs.c
  | .de => Word.ofBytes s.regs.d s.regs.e
  | .hl => s.hl
  | .sp => s.regs.sp

/-- Writing a pair writes both of its registers (R31). -/
def State.setPair (s : State) (p : Pair16) (v : Word) : State :=
  match p with
  | .bc => { s with regs := { s.regs with b := v.hi, c := v.lo } }
  | .de => { s with regs := { s.regs with d := v.hi, e := v.lo } }
  | .hl => { s with regs := { s.regs with h := v.hi, l := v.lo } }
  | .sp => s.setSp v

/-- The value of a stack pair: AF is A : F (R31, R242). -/
def State.getStackPair (s : State) : StackPair → Word
  | .bc => s.getPair .bc
  | .de => s.getPair .de
  | .hl => s.getPair .hl
  | .af => Word.ofBytes s.regs.a s.getF

/-- Loads a stack pair: for AF, F takes `v[7:0] & 0xF0` (R243). -/
def State.setStackPair (s : State) (q : StackPair) (v : Word) : State :=
  match q with
  | .bc => s.setPair .bc v
  | .de => s.setPair .de v
  | .hl => s.setPair .hl v
  | .af => (s.setReg .a v.hi).setF v.lo

/-! ## 16-bit memory accesses and the stack -/

/-- `MemRead(a, 2)` (00_scope.md R9): the byte at `a` is the low one, and `a + 1` wraps (20_memory.md R90). -/
def memRead16 (s : State) (a : Word) : Word := Word.ofBytes (memRead s (a + 1)) (memRead s a)

/-- `Push16(v)` (R240): SP drops by 2, then the high byte is written, then the low byte. -/
def push16 (v : Word) (s : State) : State :=
  let sp := s.regs.sp - 2
  memWrite sp v.lo (memWrite (sp + 1) v.hi (s.setSp sp))

/-- The value `Pop16()` returns (R241). -/
def popValue (s : State) : Word := memRead16 s s.regs.sp

/-- `Pop16()`'s effect on SP (R241). -/
def popSp (s : State) : State := s.setSp (s.regs.sp + 2)

/-! ## Retirement -/

/-- The execution types of R170. -/
inductive ExecType where
  | default
  | actionTaken
  | jumped
  | jumpedActionTaken
  deriving DecidableEq, Repr

/-- The halt bug as a count of bytes: 1 while `halt_bug` is set (60_exceptions.md R485). -/
def State.haltBugBytes (s : State) : Word := if s.haltBug then 1 else 0

/-- `NPC`, the address of the next instruction: one less under the halt bug (44_control.md R380). -/
def State.npc (s : State) (length : Nat) : Word := s.regs.pc + BitVec.ofNat 16 length - s.haltBugBytes

/-- Retirement (R171): PC advances to `npc` unless the handler jumped, and the execution type selects the cost. -/
def retire (d : Descriptor) (npc : Word) (t : ExecType) (s : State) : State :=
  match t with
  | .default => { s.setPc npc with cycles := d.base }
  | .actionTaken => { s.setPc npc with cycles := d.alternate }
  | .jumped => { s with cycles := d.base }
  | .jumpedActionTaken => { s with cycles := d.alternate }

/-- Step 6 of the CPU step (60_exceptions.md R450): `halt_bug` is cleared, the handler runs with `NPC`, and the instruction
retires. -/
def execute (d : Descriptor) (handler : Word → State → State × ExecType) (s : State) : Outcome :=
  let npc := s.npc d.length
  let r := handler npc { s with haltBug := false }
  .next (retire d npc r.2 r.1)

/-- An instruction that returns `Default`. -/
def executeDefault (d : Descriptor) (f : State → State) (s : State) : Outcome := execute d (fun _ t => (f t, .default)) s

/-- An unconditional transfer, which returns `Jumped` (R380). -/
def executeJump (d : Descriptor) (f : Word → State → State) (s : State) : Outcome :=
  execute d (fun npc t => (f npc t, .jumped)) s

/-- A conditional transfer: taken it returns `JumpedActionTaken`, else `Default` (R380). -/
def executeCond (d : Descriptor) (taken : Bool) (f : Word → State → State) (s : State) : Outcome :=
  execute d (fun npc t => if taken then (f npc t, .jumpedActionTaken) else (t, .default)) s

/-! ## Taking an interrupt and returning from one -/

/-- The lowest set bit of a nonzero pending byte: Vblank, LcdStat, Timer, Serial, Joypad in that order (R463). -/
def lowestPending (p : Byte) : Nat :=
  if Byte.bit p 0 then 0
  else if Byte.bit p 1 then 1
  else if Byte.bit p 2 then 2
  else if Byte.bit p 3 then 3
  else 4

/-- The vector of source `i` (R460). -/
def interruptVector (i : Nat) : Word := 0x0040 + 8 * BitVec.ofNat 16 i

/-- `Dispatch()` (R462): the source is chosen before the push, and its request bit is cleared after it. -/
def dispatchInterrupt (s : State) : State :=
  let i := lowestPending s.pending
  let ret := s.regs.pc - s.haltBugBytes
  let s := push16 ret { s with ime := false, eiDelay := 0, haltBug := false }
  { { s with regIF := Byte.clearBit s.regIF i }.setPc (interruptVector i) with cycles := 12 }

/-- The effect of RETI beside its cost: PC is popped and IME set at once (44_control.md R397, R465). -/
def returnFromInterrupt (s : State) : State :=
  { (popSp s).setPc (popValue s) with ime := true, eiDelay := 0 }

/-- `EndOfStep()`, the deferred interrupt enable (R490). -/
def endOfStep (s : State) : State :=
  match s.eiDelay with
  | 0 => s
  | 1 => { s with eiDelay := 0, ime := true }
  | 2 => { s with eiDelay := 1 }

/-- The devices advance by a step's cycles: picture unit, timer, sound unit (20_memory.md R140). -/
def advanceDevices (n : Nat) (s : State) : State := soundAdvance n (timerAdvance n (ppuAdvance n s))

end Sys2Proof.Machine
end

