-- ==== Sys2Proof/Machine/Flags.lean ====
section
/-! DEFINITION. The flags byte and every flag computation of the instruction rules (spec 10_state.md R32, 41_alu8.md, 42_alu16.md,
43_cb_prefix.md). Each computation gives the result and the four flags Z, N, H, C. -/

namespace Sys2Proof.Machine

/-- The flags byte with the given bits 7..4; bits 3..0 are 0 (R32). -/
def mkF (z n h c : Bool) : Byte :=
  BitVec.ofBool z ++ BitVec.ofBool n ++ BitVec.ofBool h ++ BitVec.ofBool c ++ (0 : BitVec 4)

/-- `F.Z`, `F.N`, `F.H` and `F.C` (R32). -/
def State.flagZ (s : State) : Bool := Byte.bit s.regs.f 7
def State.flagN (s : State) : Bool := Byte.bit s.regs.f 6
def State.flagH (s : State) : Bool := Byte.bit s.regs.f 5
def State.flagC (s : State) : Bool := Byte.bit s.regs.f 4

/-- Writes the four flags. -/
def State.setFlags (s : State) (z n h c : Bool) : State := s.setF (mkF z n h c)

/-- `cond(cc)` on F as it stands (30_encoding.md R155). -/
def State.cond (s : State) : Cond → Bool
  | .nz => !s.flagZ
  | .z => s.flagZ
  | .nc => !s.flagC
  | .c => s.flagC

/-- A result byte with the four flags it writes. -/
structure Result8 where
  value : Byte
  z     : Bool
  n     : Bool
  h     : Bool
  c     : Bool
  deriving DecidableEq, Repr

/-- The low nibble as a number. -/
def nibble (v : Byte) : Nat := v.toNat % 16

/-- `A + v + c` (R261, R262). -/
def add8 (a v : Byte) (c : Bool) : Result8 :=
  let r := a.toNat + v.toNat + c.toNat
  let x := BitVec.ofNat 8 r
  ⟨x, x == 0, false, decide (0x0F < nibble a + nibble v + c.toNat), decide (0xFF < r)⟩

/-- `A - v - c` (R263, R264). -/
def sub8 (a v : Byte) (c : Bool) : Result8 :=
  let x := BitVec.ofInt 8 ((a.toNat : Int) - v.toNat - c.toNat)
  ⟨x, x == 0, true, decide (nibble a < nibble v + c.toNat), decide (a.toNat < v.toNat + c.toNat)⟩

/-- The logical operations (R265-R267). -/
def and8 (a v : Byte) : Result8 := ⟨a &&& v, a &&& v == 0, false, true, false⟩
def xor8 (a v : Byte) : Result8 := ⟨a ^^^ v, a ^^^ v == 0, false, false, false⟩
def or8 (a v : Byte) : Result8 := ⟨a ||| v, a ||| v == 0, false, false, false⟩

/-- The eight ALU operations on A, the operand and the carry flag (R261-R268). CP keeps A. -/
def alu8 (op : AluOp) (a v : Byte) (c : Bool) : Result8 :=
  match op with
  | .add => add8 a v false
  | .adc => add8 a v c
  | .sub => sub8 a v false
  | .sbc => sub8 a v c
  | .and => and8 a v
  | .xor => xor8 a v
  | .or => or8 a v
  | .cp => { sub8 a v false with value := a }

/-- INC: C is kept (R270, R271). -/
def inc8 (old : Byte) (c : Bool) : Result8 := ⟨old + 1, old + 1 == 0, false, nibble old == 0x0F, c⟩

/-- DEC: C is kept (R272, R273). -/
def dec8 (old : Byte) (c : Bool) : Result8 := ⟨old - 1, old - 1 == 0, true, nibble old == 0x00, c⟩

/-- The adjustment DAA makes (R280): both tests of the addition branch read A before the adjustment. -/
def daaAdjust (a : Byte) (n h c : Bool) : Byte :=
  let lo : Byte := if h || (!n && decide (0x09 < nibble a)) then 0x06 else 0
  let hi : Byte := if c || (!n && decide (0x99 < a.toNat)) then 0x60 else 0
  lo ||| hi

/-- DAA (R280): N is kept. -/
def daa8 (a : Byte) (n h c : Bool) : Result8 :=
  let x := if n then a - daaAdjust a n h c else a + daaAdjust a n h c
  ⟨x, x == 0, n, false, c || (!n && decide (0x99 < a.toNat))⟩

/-- The value and the carry out of the rotates and shifts (R340-R347, and R290-R293 for A). -/
def rotValue (op : RotOp) (v : Byte) (c : Bool) : Byte × Bool :=
  let b7 := Byte.bit v 7
  let b0 := Byte.bit v 0
  match op with
  | .rlc => ((v <<< 1) ||| Byte.zextBool b7 0, b7)
  | .rrc => ((v >>> 1) ||| Byte.zextBool b0 7, b0)
  | .rl => ((v <<< 1) ||| Byte.zextBool c 0, b7)
  | .rr => ((v >>> 1) ||| Byte.zextBool c 7, b0)
  | .sla => (v <<< 1, b7)
  | .sra => ((v >>> 1) ||| (v &&& 0x80), b0)
  | .swap => ((v <<< 4) ||| (v >>> 4), false)
  | .srl => (v >>> 1, b0)

/-- The CB forms compute Z from the result (R340-R347). -/
def rot8 (op : RotOp) (v : Byte) (c : Bool) : Result8 :=
  let r := rotValue op v c
  ⟨r.1, r.1 == 0, false, false, r.2⟩

/-- The accumulator forms always clear Z (R290-R293). -/
def rotA8 (op : RotOp) (v : Byte) (c : Bool) : Result8 := { rot8 op v c with z := false }

/-- The half carry and carry of ADD HL (R320): out of bit 11 and out of bit 15. -/
def addHlH (a v : Word) : Bool := decide (0x0FFF < a.toNat % 0x1000 + v.toNat % 0x1000)
def addHlC (a v : Word) : Bool := decide (0xFFFF < a.toNat + v.toNat)

/-- The half carry and carry of ADD SP,e8 and LD HL,SP+e8 (R325, R326): from the unsigned addition of the low bytes. -/
def addSpH (sp : Word) (u : Byte) : Bool := decide (0x0F < sp.toNat % 0x10 + u.toNat % 0x10)
def addSpC (sp : Word) (u : Byte) : Bool := decide (0xFF < sp.toNat % 0x100 + u.toNat)

/-- Writes the flags of a result. -/
def State.setResultFlags (s : State) (r : Result8) : State := s.setFlags r.z r.n r.h r.c

end Sys2Proof.Machine
end

