-- ==== Sys2Proof/Machine/Operands.lean ====
section
/-! DEFINITION. Every operand form: reading and writing a register or the byte at HL, the `src8` of the ALU instructions, and the
addresses that loads and stores form (spec 30_encoding.md R154, R156; 40_load.md; 41_alu8.md R260; 43_cb_prefix.md R339). -/

namespace Sys2Proof.Machine

/-- `get()`: a register, or one bus read at HL (R339). -/
def State.getLoc (s : State) : Loc8 → Byte
  | .reg r => s.getReg r
  | .atHl => memRead s s.hl

/-- `set(v)`: a register, or one bus write at HL (R339). -/
def State.setLoc (s : State) (l : Loc8) (v : Byte) : State :=
  match l with
  | .reg r => s.setReg r v
  | .atHl => memWrite s.hl v s

/-- `src8` (R260). -/
def State.src8 (s : State) : Src8 → Byte
  | .reg r => s.getReg r
  | .atHl => memRead s s.hl
  | .imm n => n

/-- `0xFF00 + a8` (R156). -/
def highPage (a : Byte) : Word := (0xFF : Byte) ++ a

/-- The address of `(C)`: 0xFF00 + C (R217, R218). -/
def State.highC (s : State) : Word := highPage s.regs.c

/-- Writes a result and its flags to a location; the write comes after the read of the operand and before the flags. -/
def State.putResult (s : State) (l : Loc8) (r : Result8) : State := (s.setLoc l r.value).setResultFlags r

end Sys2Proof.Machine
end

