-- ==== Sys2Proof/Machine/Alu16.lean ====
section
/-! DEFINITION. 16-bit arithmetic (spec 42_alu16.md R320-R326): the operation of each rule, then the meaning of each row of the
opcode table. -/

namespace Sys2Proof.Machine

/-! ## The rules -/

/-- `ADD HL,rr` (R320). -/
def runAddHl (p : Pair16) : State → Outcome :=
  executeDefault (.plain 1 8) fun s =>
    (s.setPair .hl (s.hl + s.getPair p)).setFlags s.flagZ false (addHlH s.hl (s.getPair p)) (addHlC s.hl (s.getPair p))

/-- `INC rr` (R321). -/
def runIncPair (p : Pair16) : State → Outcome := executeDefault (.plain 1 8) fun s => s.setPair p (s.getPair p + 1)

/-- `DEC rr` (R322). -/
def runDecPair (p : Pair16) : State → Outcome := executeDefault (.plain 1 8) fun s => s.setPair p (s.getPair p - 1)

/-- `ADD SP,e8` (R325). -/
def runAddSp (e : Byte) : State → Outcome :=
  executeDefault (.plain 2 16) fun s =>
    (s.setSp (s.regs.sp + Byte.sext e)).setFlags false false (addSpH s.regs.sp e) (addSpC s.regs.sp e)

/-- `LD HL,SP+e8` (R326). -/
def runLdHlSp (e : Byte) : State → Outcome :=
  executeDefault (.plain 2 12) fun s =>
    (s.setPair .hl (s.regs.sp + Byte.sext e)).setFlags false false (addSpH s.regs.sp e) (addSpC s.regs.sp e)

/-! ## The instructions -/

/-- `INC BC` (R321) -/
def execIncBc (s : State) : Outcome := runIncPair .bc s

/-- `ADD HL,BC` (R320) -/
def execAddHlBc (s : State) : Outcome := runAddHl .bc s

/-- `DEC BC` (R322) -/
def execDecBc (s : State) : Outcome := runDecPair .bc s

/-- `INC DE` (R321) -/
def execIncDe (s : State) : Outcome := runIncPair .de s

/-- `ADD HL,DE` (R320) -/
def execAddHlDe (s : State) : Outcome := runAddHl .de s

/-- `DEC DE` (R322) -/
def execDecDe (s : State) : Outcome := runDecPair .de s

/-- `INC HL` (R321) -/
def execIncHl (s : State) : Outcome := runIncPair .hl s

/-- `ADD HL,HL` (R320) -/
def execAddHlHl (s : State) : Outcome := runAddHl .hl s

/-- `DEC HL` (R322) -/
def execDecHl (s : State) : Outcome := runDecPair .hl s

/-- `INC SP` (R321) -/
def execIncSp (s : State) : Outcome := runIncPair .sp s

/-- `ADD HL,SP` (R320) -/
def execAddHlSp (s : State) : Outcome := runAddHl .sp s

/-- `DEC SP` (R322) -/
def execDecSp (s : State) : Outcome := runDecPair .sp s

/-- `ADD SP,e8` (R325) -/
def execAddSpE8 (e : Byte) (s : State) : Outcome := runAddSp e s

/-- `LD HL,SP+e8` (R326) -/
def execLdHlSpE8 (e : Byte) (s : State) : Outcome := runLdHlSp e s

end Sys2Proof.Machine
end

