-- ==== Sys2Proof/Machine/Alu8.lean ====
section
/-! DEFINITION. 8-bit arithmetic, logic and accumulator rotates (spec 41_alu8.md R260-R293): the operation of each rule, then the
meaning of each row of the opcode table. -/

namespace Sys2Proof.Machine

/-! ## The rules -/

/-- The descriptor of each operand form (R260). -/
def aluDescriptor : Src8 → Descriptor
  | .reg _ => .plain 1 4
  | .atHl => .plain 1 8
  | .imm _ => .plain 2 8

/-- The eight ALU operations (R261-R268). -/
def runAlu (op : AluOp) (src : Src8) : State → Outcome :=
  executeDefault (aluDescriptor src) fun s => s.putResult (.reg .a) (alu8 op s.regs.a (s.src8 src) s.flagC)

/-- `INC r` (R270). -/
def runIncReg (r : Reg8) : State → Outcome :=
  executeDefault (.plain 1 4) fun s => s.putResult (.reg r) (inc8 (s.getReg r) s.flagC)

/-- `INC (HL)` (R271). -/
def runIncHl : State → Outcome :=
  executeDefault (.plain 1 12) fun s => s.putResult .atHl (inc8 (memRead s s.hl) s.flagC)

/-- `DEC r` (R272). -/
def runDecReg (r : Reg8) : State → Outcome :=
  executeDefault (.plain 1 4) fun s => s.putResult (.reg r) (dec8 (s.getReg r) s.flagC)

/-- `DEC (HL)` (R273). -/
def runDecHl : State → Outcome :=
  executeDefault (.plain 1 12) fun s => s.putResult .atHl (dec8 (memRead s s.hl) s.flagC)

/-- `DAA` (R280). -/
def runDaa : State → Outcome :=
  executeDefault (.plain 1 4) fun s => s.putResult (.reg .a) (daa8 s.regs.a s.flagN s.flagH s.flagC)

/-- `CPL` (R281). -/
def runCpl : State → Outcome :=
  executeDefault (.plain 1 4) fun s => (s.setReg .a (s.regs.a ^^^ 0xFF)).setFlags s.flagZ true true s.flagC

/-- `SCF` (R282). -/
def runScf : State → Outcome := executeDefault (.plain 1 4) fun s => s.setFlags s.flagZ false false true

/-- `CCF` (R283). -/
def runCcf : State → Outcome := executeDefault (.plain 1 4) fun s => s.setFlags s.flagZ false false (!s.flagC)

/-- `RLCA` (R290). -/
def runRlca : State → Outcome := executeDefault (.plain 1 4) fun s => s.putResult (.reg .a) (rotA8 .rlc s.regs.a s.flagC)

/-- `RRCA` (R291). -/
def runRrca : State → Outcome := executeDefault (.plain 1 4) fun s => s.putResult (.reg .a) (rotA8 .rrc s.regs.a s.flagC)

/-- `RLA` (R292). -/
def runRla : State → Outcome := executeDefault (.plain 1 4) fun s => s.putResult (.reg .a) (rotA8 .rl s.regs.a s.flagC)

/-- `RRA` (R293). -/
def runRra : State → Outcome := executeDefault (.plain 1 4) fun s => s.putResult (.reg .a) (rotA8 .rr s.regs.a s.flagC)

/-! ## The instructions -/

/-- `INC B` (R270) -/
def execIncB (s : State) : Outcome := runIncReg .b s

/-- `DEC B` (R272) -/
def execDecB (s : State) : Outcome := runDecReg .b s

/-- `RLCA` (R290) -/
def execRlca (s : State) : Outcome := runRlca s

/-- `INC C` (R270) -/
def execIncC (s : State) : Outcome := runIncReg .c s

/-- `DEC C` (R272) -/
def execDecC (s : State) : Outcome := runDecReg .c s

/-- `RRCA` (R291) -/
def execRrca (s : State) : Outcome := runRrca s

/-- `INC D` (R270) -/
def execIncD (s : State) : Outcome := runIncReg .d s

/-- `DEC D` (R272) -/
def execDecD (s : State) : Outcome := runDecReg .d s

/-- `RLA` (R292) -/
def execRla (s : State) : Outcome := runRla s

/-- `INC E` (R270) -/
def execIncE (s : State) : Outcome := runIncReg .e s

/-- `DEC E` (R272) -/
def execDecE (s : State) : Outcome := runDecReg .e s

/-- `RRA` (R293) -/
def execRra (s : State) : Outcome := runRra s

/-- `INC H` (R270) -/
def execIncH (s : State) : Outcome := runIncReg .h s

/-- `DEC H` (R272) -/
def execDecH (s : State) : Outcome := runDecReg .h s

/-- `DAA` (R280) -/
def execDaa (s : State) : Outcome := runDaa s

/-- `INC L` (R270) -/
def execIncL (s : State) : Outcome := runIncReg .l s

/-- `DEC L` (R272) -/
def execDecL (s : State) : Outcome := runDecReg .l s

/-- `CPL` (R281) -/
def execCpl (s : State) : Outcome := runCpl s

/-- `INC (HL)` (R271) -/
def execIncAtHl (s : State) : Outcome := runIncHl s

/-- `DEC (HL)` (R273) -/
def execDecAtHl (s : State) : Outcome := runDecHl s

/-- `SCF` (R282) -/
def execScf (s : State) : Outcome := runScf s

/-- `INC A` (R270) -/
def execIncA (s : State) : Outcome := runIncReg .a s

/-- `DEC A` (R272) -/
def execDecA (s : State) : Outcome := runDecReg .a s

/-- `CCF` (R283) -/
def execCcf (s : State) : Outcome := runCcf s

/-- `ADD A,B` (R261) -/
def execAddAB (s : State) : Outcome := runAlu .add (.reg .b) s

/-- `ADD A,C` (R261) -/
def execAddAC (s : State) : Outcome := runAlu .add (.reg .c) s

/-- `ADD A,D` (R261) -/
def execAddAD (s : State) : Outcome := runAlu .add (.reg .d) s

/-- `ADD A,E` (R261) -/
def execAddAE (s : State) : Outcome := runAlu .add (.reg .e) s

/-- `ADD A,H` (R261) -/
def execAddAH (s : State) : Outcome := runAlu .add (.reg .h) s

/-- `ADD A,L` (R261) -/
def execAddAL (s : State) : Outcome := runAlu .add (.reg .l) s

/-- `ADD A,(HL)` (R261) -/
def execAddAAtHl (s : State) : Outcome := runAlu .add .atHl s

/-- `ADD A,A` (R261) -/
def execAddAA (s : State) : Outcome := runAlu .add (.reg .a) s

/-- `ADC A,B` (R262) -/
def execAdcAB (s : State) : Outcome := runAlu .adc (.reg .b) s

/-- `ADC A,C` (R262) -/
def execAdcAC (s : State) : Outcome := runAlu .adc (.reg .c) s

/-- `ADC A,D` (R262) -/
def execAdcAD (s : State) : Outcome := runAlu .adc (.reg .d) s

/-- `ADC A,E` (R262) -/
def execAdcAE (s : State) : Outcome := runAlu .adc (.reg .e) s

/-- `ADC A,H` (R262) -/
def execAdcAH (s : State) : Outcome := runAlu .adc (.reg .h) s

/-- `ADC A,L` (R262) -/
def execAdcAL (s : State) : Outcome := runAlu .adc (.reg .l) s

/-- `ADC A,(HL)` (R262) -/
def execAdcAAtHl (s : State) : Outcome := runAlu .adc .atHl s

/-- `ADC A,A` (R262) -/
def execAdcAA (s : State) : Outcome := runAlu .adc (.reg .a) s

/-- `SUB B` (R263) -/
def execSubB (s : State) : Outcome := runAlu .sub (.reg .b) s

/-- `SUB C` (R263) -/
def execSubC (s : State) : Outcome := runAlu .sub (.reg .c) s

/-- `SUB D` (R263) -/
def execSubD (s : State) : Outcome := runAlu .sub (.reg .d) s

/-- `SUB E` (R263) -/
def execSubE (s : State) : Outcome := runAlu .sub (.reg .e) s

/-- `SUB H` (R263) -/
def execSubH (s : State) : Outcome := runAlu .sub (.reg .h) s

/-- `SUB L` (R263) -/
def execSubL (s : State) : Outcome := runAlu .sub (.reg .l) s

/-- `SUB (HL)` (R263) -/
def execSubAtHl (s : State) : Outcome := runAlu .sub .atHl s

/-- `SUB A` (R263) -/
def execSubA (s : State) : Outcome := runAlu .sub (.reg .a) s

/-- `SBC A,B` (R264) -/
def execSbcAB (s : State) : Outcome := runAlu .sbc (.reg .b) s

/-- `SBC A,C` (R264) -/
def execSbcAC (s : State) : Outcome := runAlu .sbc (.reg .c) s

/-- `SBC A,D` (R264) -/
def execSbcAD (s : State) : Outcome := runAlu .sbc (.reg .d) s

/-- `SBC A,E` (R264) -/
def execSbcAE (s : State) : Outcome := runAlu .sbc (.reg .e) s

/-- `SBC A,H` (R264) -/
def execSbcAH (s : State) : Outcome := runAlu .sbc (.reg .h) s

/-- `SBC A,L` (R264) -/
def execSbcAL (s : State) : Outcome := runAlu .sbc (.reg .l) s

/-- `SBC A,(HL)` (R264) -/
def execSbcAAtHl (s : State) : Outcome := runAlu .sbc .atHl s

/-- `SBC A,A` (R264) -/
def execSbcAA (s : State) : Outcome := runAlu .sbc (.reg .a) s

/-- `AND B` (R265) -/
def execAndB (s : State) : Outcome := runAlu .and (.reg .b) s

/-- `AND C` (R265) -/
def execAndC (s : State) : Outcome := runAlu .and (.reg .c) s

/-- `AND D` (R265) -/
def execAndD (s : State) : Outcome := runAlu .and (.reg .d) s

/-- `AND E` (R265) -/
def execAndE (s : State) : Outcome := runAlu .and (.reg .e) s

/-- `AND H` (R265) -/
def execAndH (s : State) : Outcome := runAlu .and (.reg .h) s

/-- `AND L` (R265) -/
def execAndL (s : State) : Outcome := runAlu .and (.reg .l) s

/-- `AND (HL)` (R265) -/
def execAndAtHl (s : State) : Outcome := runAlu .and .atHl s

/-- `AND A` (R265) -/
def execAndA (s : State) : Outcome := runAlu .and (.reg .a) s

/-- `XOR B` (R266) -/
def execXorB (s : State) : Outcome := runAlu .xor (.reg .b) s

/-- `XOR C` (R266) -/
def execXorC (s : State) : Outcome := runAlu .xor (.reg .c) s

/-- `XOR D` (R266) -/
def execXorD (s : State) : Outcome := runAlu .xor (.reg .d) s

/-- `XOR E` (R266) -/
def execXorE (s : State) : Outcome := runAlu .xor (.reg .e) s

/-- `XOR H` (R266) -/
def execXorH (s : State) : Outcome := runAlu .xor (.reg .h) s

/-- `XOR L` (R266) -/
def execXorL (s : State) : Outcome := runAlu .xor (.reg .l) s

/-- `XOR (HL)` (R266) -/
def execXorAtHl (s : State) : Outcome := runAlu .xor .atHl s

/-- `XOR A` (R266) -/
def execXorA (s : State) : Outcome := runAlu .xor (.reg .a) s

/-- `OR B` (R267) -/
def execOrB (s : State) : Outcome := runAlu .or (.reg .b) s

/-- `OR C` (R267) -/
def execOrC (s : State) : Outcome := runAlu .or (.reg .c) s

/-- `OR D` (R267) -/
def execOrD (s : State) : Outcome := runAlu .or (.reg .d) s

/-- `OR E` (R267) -/
def execOrE (s : State) : Outcome := runAlu .or (.reg .e) s

/-- `OR H` (R267) -/
def execOrH (s : State) : Outcome := runAlu .or (.reg .h) s

/-- `OR L` (R267) -/
def execOrL (s : State) : Outcome := runAlu .or (.reg .l) s

/-- `OR (HL)` (R267) -/
def execOrAtHl (s : State) : Outcome := runAlu .or .atHl s

/-- `OR A` (R267) -/
def execOrA (s : State) : Outcome := runAlu .or (.reg .a) s

/-- `CP B` (R268) -/
def execCpB (s : State) : Outcome := runAlu .cp (.reg .b) s

/-- `CP C` (R268) -/
def execCpC (s : State) : Outcome := runAlu .cp (.reg .c) s

/-- `CP D` (R268) -/
def execCpD (s : State) : Outcome := runAlu .cp (.reg .d) s

/-- `CP E` (R268) -/
def execCpE (s : State) : Outcome := runAlu .cp (.reg .e) s

/-- `CP H` (R268) -/
def execCpH (s : State) : Outcome := runAlu .cp (.reg .h) s

/-- `CP L` (R268) -/
def execCpL (s : State) : Outcome := runAlu .cp (.reg .l) s

/-- `CP (HL)` (R268) -/
def execCpAtHl (s : State) : Outcome := runAlu .cp .atHl s

/-- `CP A` (R268) -/
def execCpA (s : State) : Outcome := runAlu .cp (.reg .a) s

/-- `ADD A,d8` (R261) -/
def execAddAD8 (n : Byte) (s : State) : Outcome := runAlu .add (.imm n) s

/-- `ADC A,d8` (R262) -/
def execAdcAD8 (n : Byte) (s : State) : Outcome := runAlu .adc (.imm n) s

/-- `SUB d8` (R263) -/
def execSubD8 (n : Byte) (s : State) : Outcome := runAlu .sub (.imm n) s

/-- `SBC A,d8` (R264) -/
def execSbcAD8 (n : Byte) (s : State) : Outcome := runAlu .sbc (.imm n) s

/-- `AND d8` (R265) -/
def execAndD8 (n : Byte) (s : State) : Outcome := runAlu .and (.imm n) s

/-- `XOR d8` (R266) -/
def execXorD8 (n : Byte) (s : State) : Outcome := runAlu .xor (.imm n) s

/-- `OR d8` (R267) -/
def execOrD8 (n : Byte) (s : State) : Outcome := runAlu .or (.imm n) s

/-- `CP d8` (R268) -/
def execCpD8 (n : Byte) (s : State) : Outcome := runAlu .cp (.imm n) s

end Sys2Proof.Machine
end

