-- ==== Sys2Proof/Machine/Cb.lean ====
section
/-! DEFINITION. The CB-prefixed rotates, shifts and bit operations (spec 43_cb_prefix.md R339-R352): the operation of each rule, then
the meaning of each row of the opcode table. -/

namespace Sys2Proof.Machine

/-! ## The rules -/

/-- The cost of the forms that read, modify and write (R339). -/
def rmwDescriptor : Loc8 → Descriptor
  | .reg _ => .plain 2 8
  | .atHl => .plain 2 16

/-- The cost of BIT, which only reads (R339). -/
def bitDescriptor : Loc8 → Descriptor
  | .reg _ => .plain 2 8
  | .atHl => .plain 2 12

/-- The rotates and shifts (R340-R347). -/
def runRot (op : RotOp) (l : Loc8) : State → Outcome :=
  executeDefault (rmwDescriptor l) fun s => s.putResult l (rot8 op (s.getLoc l) s.flagC)

/-- `BIT b,r` (R350). -/
def runBit (b : BitVec 3) (l : Loc8) : State → Outcome :=
  executeDefault (bitDescriptor l) fun s => s.setFlags (!Byte.bit (s.getLoc l) b.toNat) false true s.flagC

/-- `RES b,r` (R351). -/
def runRes (b : BitVec 3) (l : Loc8) : State → Outcome :=
  executeDefault (rmwDescriptor l) fun s => s.setLoc l (Byte.clearBit (s.getLoc l) b.toNat)

/-- `SET b,r` (R352). -/
def runSet (b : BitVec 3) (l : Loc8) : State → Outcome :=
  executeDefault (rmwDescriptor l) fun s => s.setLoc l (Byte.setBit (s.getLoc l) b.toNat)

/-! ## The instructions -/

/-- `RLC B` (R340) -/
def execRlcB (s : State) : Outcome := runRot .rlc (.reg .b) s

/-- `RLC C` (R340) -/
def execRlcC (s : State) : Outcome := runRot .rlc (.reg .c) s

/-- `RLC D` (R340) -/
def execRlcD (s : State) : Outcome := runRot .rlc (.reg .d) s

/-- `RLC E` (R340) -/
def execRlcE (s : State) : Outcome := runRot .rlc (.reg .e) s

/-- `RLC H` (R340) -/
def execRlcH (s : State) : Outcome := runRot .rlc (.reg .h) s

/-- `RLC L` (R340) -/
def execRlcL (s : State) : Outcome := runRot .rlc (.reg .l) s

/-- `RLC (HL)` (R340) -/
def execRlcAtHl (s : State) : Outcome := runRot .rlc .atHl s

/-- `RLC A` (R340) -/
def execRlcA (s : State) : Outcome := runRot .rlc (.reg .a) s

/-- `RRC B` (R341) -/
def execRrcB (s : State) : Outcome := runRot .rrc (.reg .b) s

/-- `RRC C` (R341) -/
def execRrcC (s : State) : Outcome := runRot .rrc (.reg .c) s

/-- `RRC D` (R341) -/
def execRrcD (s : State) : Outcome := runRot .rrc (.reg .d) s

/-- `RRC E` (R341) -/
def execRrcE (s : State) : Outcome := runRot .rrc (.reg .e) s

/-- `RRC H` (R341) -/
def execRrcH (s : State) : Outcome := runRot .rrc (.reg .h) s

/-- `RRC L` (R341) -/
def execRrcL (s : State) : Outcome := runRot .rrc (.reg .l) s

/-- `RRC (HL)` (R341) -/
def execRrcAtHl (s : State) : Outcome := runRot .rrc .atHl s

/-- `RRC A` (R341) -/
def execRrcA (s : State) : Outcome := runRot .rrc (.reg .a) s

/-- `RL B` (R342) -/
def execRlB (s : State) : Outcome := runRot .rl (.reg .b) s

/-- `RL C` (R342) -/
def execRlC (s : State) : Outcome := runRot .rl (.reg .c) s

/-- `RL D` (R342) -/
def execRlD (s : State) : Outcome := runRot .rl (.reg .d) s

/-- `RL E` (R342) -/
def execRlE (s : State) : Outcome := runRot .rl (.reg .e) s

/-- `RL H` (R342) -/
def execRlH (s : State) : Outcome := runRot .rl (.reg .h) s

/-- `RL L` (R342) -/
def execRlL (s : State) : Outcome := runRot .rl (.reg .l) s

/-- `RL (HL)` (R342) -/
def execRlAtHl (s : State) : Outcome := runRot .rl .atHl s

/-- `RL A` (R342) -/
def execRlA (s : State) : Outcome := runRot .rl (.reg .a) s

/-- `RR B` (R343) -/
def execRrB (s : State) : Outcome := runRot .rr (.reg .b) s

/-- `RR C` (R343) -/
def execRrC (s : State) : Outcome := runRot .rr (.reg .c) s

/-- `RR D` (R343) -/
def execRrD (s : State) : Outcome := runRot .rr (.reg .d) s

/-- `RR E` (R343) -/
def execRrE (s : State) : Outcome := runRot .rr (.reg .e) s

/-- `RR H` (R343) -/
def execRrH (s : State) : Outcome := runRot .rr (.reg .h) s

/-- `RR L` (R343) -/
def execRrL (s : State) : Outcome := runRot .rr (.reg .l) s

/-- `RR (HL)` (R343) -/
def execRrAtHl (s : State) : Outcome := runRot .rr .atHl s

/-- `RR A` (R343) -/
def execRrA (s : State) : Outcome := runRot .rr (.reg .a) s

/-- `SLA B` (R344) -/
def execSlaB (s : State) : Outcome := runRot .sla (.reg .b) s

/-- `SLA C` (R344) -/
def execSlaC (s : State) : Outcome := runRot .sla (.reg .c) s

/-- `SLA D` (R344) -/
def execSlaD (s : State) : Outcome := runRot .sla (.reg .d) s

/-- `SLA E` (R344) -/
def execSlaE (s : State) : Outcome := runRot .sla (.reg .e) s

/-- `SLA H` (R344) -/
def execSlaH (s : State) : Outcome := runRot .sla (.reg .h) s

/-- `SLA L` (R344) -/
def execSlaL (s : State) : Outcome := runRot .sla (.reg .l) s

/-- `SLA (HL)` (R344) -/
def execSlaAtHl (s : State) : Outcome := runRot .sla .atHl s

/-- `SLA A` (R344) -/
def execSlaA (s : State) : Outcome := runRot .sla (.reg .a) s

/-- `SRA B` (R345) -/
def execSraB (s : State) : Outcome := runRot .sra (.reg .b) s

/-- `SRA C` (R345) -/
def execSraC (s : State) : Outcome := runRot .sra (.reg .c) s

/-- `SRA D` (R345) -/
def execSraD (s : State) : Outcome := runRot .sra (.reg .d) s

/-- `SRA E` (R345) -/
def execSraE (s : State) : Outcome := runRot .sra (.reg .e) s

/-- `SRA H` (R345) -/
def execSraH (s : State) : Outcome := runRot .sra (.reg .h) s

/-- `SRA L` (R345) -/
def execSraL (s : State) : Outcome := runRot .sra (.reg .l) s

/-- `SRA (HL)` (R345) -/
def execSraAtHl (s : State) : Outcome := runRot .sra .atHl s

/-- `SRA A` (R345) -/
def execSraA (s : State) : Outcome := runRot .sra (.reg .a) s

/-- `SWAP B` (R346) -/
def execSwapB (s : State) : Outcome := runRot .swap (.reg .b) s

/-- `SWAP C` (R346) -/
def execSwapC (s : State) : Outcome := runRot .swap (.reg .c) s

/-- `SWAP D` (R346) -/
def execSwapD (s : State) : Outcome := runRot .swap (.reg .d) s

/-- `SWAP E` (R346) -/
def execSwapE (s : State) : Outcome := runRot .swap (.reg .e) s

/-- `SWAP H` (R346) -/
def execSwapH (s : State) : Outcome := runRot .swap (.reg .h) s

/-- `SWAP L` (R346) -/
def execSwapL (s : State) : Outcome := runRot .swap (.reg .l) s

/-- `SWAP (HL)` (R346) -/
def execSwapAtHl (s : State) : Outcome := runRot .swap .atHl s

/-- `SWAP A` (R346) -/
def execSwapA (s : State) : Outcome := runRot .swap (.reg .a) s

/-- `SRL B` (R347) -/
def execSrlB (s : State) : Outcome := runRot .srl (.reg .b) s

/-- `SRL C` (R347) -/
def execSrlC (s : State) : Outcome := runRot .srl (.reg .c) s

/-- `SRL D` (R347) -/
def execSrlD (s : State) : Outcome := runRot .srl (.reg .d) s

/-- `SRL E` (R347) -/
def execSrlE (s : State) : Outcome := runRot .srl (.reg .e) s

/-- `SRL H` (R347) -/
def execSrlH (s : State) : Outcome := runRot .srl (.reg .h) s

/-- `SRL L` (R347) -/
def execSrlL (s : State) : Outcome := runRot .srl (.reg .l) s

/-- `SRL (HL)` (R347) -/
def execSrlAtHl (s : State) : Outcome := runRot .srl .atHl s

/-- `SRL A` (R347) -/
def execSrlA (s : State) : Outcome := runRot .srl (.reg .a) s

/-- `BIT 0,B` (R350) -/
def execBit0B (s : State) : Outcome := runBit 0 (.reg .b) s

/-- `BIT 0,C` (R350) -/
def execBit0C (s : State) : Outcome := runBit 0 (.reg .c) s

/-- `BIT 0,D` (R350) -/
def execBit0D (s : State) : Outcome := runBit 0 (.reg .d) s

/-- `BIT 0,E` (R350) -/
def execBit0E (s : State) : Outcome := runBit 0 (.reg .e) s

/-- `BIT 0,H` (R350) -/
def execBit0H (s : State) : Outcome := runBit 0 (.reg .h) s

/-- `BIT 0,L` (R350) -/
def execBit0L (s : State) : Outcome := runBit 0 (.reg .l) s

/-- `BIT 0,(HL)` (R350) -/
def execBit0AtHl (s : State) : Outcome := runBit 0 .atHl s

/-- `BIT 0,A` (R350) -/
def execBit0A (s : State) : Outcome := runBit 0 (.reg .a) s

/-- `BIT 1,B` (R350) -/
def execBit1B (s : State) : Outcome := runBit 1 (.reg .b) s

/-- `BIT 1,C` (R350) -/
def execBit1C (s : State) : Outcome := runBit 1 (.reg .c) s

/-- `BIT 1,D` (R350) -/
def execBit1D (s : State) : Outcome := runBit 1 (.reg .d) s

/-- `BIT 1,E` (R350) -/
def execBit1E (s : State) : Outcome := runBit 1 (.reg .e) s

/-- `BIT 1,H` (R350) -/
def execBit1H (s : State) : Outcome := runBit 1 (.reg .h) s

/-- `BIT 1,L` (R350) -/
def execBit1L (s : State) : Outcome := runBit 1 (.reg .l) s

/-- `BIT 1,(HL)` (R350) -/
def execBit1AtHl (s : State) : Outcome := runBit 1 .atHl s

/-- `BIT 1,A` (R350) -/
def execBit1A (s : State) : Outcome := runBit 1 (.reg .a) s

/-- `BIT 2,B` (R350) -/
def execBit2B (s : State) : Outcome := runBit 2 (.reg .b) s

/-- `BIT 2,C` (R350) -/
def execBit2C (s : State) : Outcome := runBit 2 (.reg .c) s

/-- `BIT 2,D` (R350) -/
def execBit2D (s : State) : Outcome := runBit 2 (.reg .d) s

/-- `BIT 2,E` (R350) -/
def execBit2E (s : State) : Outcome := runBit 2 (.reg .e) s

/-- `BIT 2,H` (R350) -/
def execBit2H (s : State) : Outcome := runBit 2 (.reg .h) s

/-- `BIT 2,L` (R350) -/
def execBit2L (s : State) : Outcome := runBit 2 (.reg .l) s

/-- `BIT 2,(HL)` (R350) -/
def execBit2AtHl (s : State) : Outcome := runBit 2 .atHl s

/-- `BIT 2,A` (R350) -/
def execBit2A (s : State) : Outcome := runBit 2 (.reg .a) s

/-- `BIT 3,B` (R350) -/
def execBit3B (s : State) : Outcome := runBit 3 (.reg .b) s

/-- `BIT 3,C` (R350) -/
def execBit3C (s : State) : Outcome := runBit 3 (.reg .c) s

/-- `BIT 3,D` (R350) -/
def execBit3D (s : State) : Outcome := runBit 3 (.reg .d) s

/-- `BIT 3,E` (R350) -/
def execBit3E (s : State) : Outcome := runBit 3 (.reg .e) s

/-- `BIT 3,H` (R350) -/
def execBit3H (s : State) : Outcome := runBit 3 (.reg .h) s

/-- `BIT 3,L` (R350) -/
def execBit3L (s : State) : Outcome := runBit 3 (.reg .l) s

/-- `BIT 3,(HL)` (R350) -/
def execBit3AtHl (s : State) : Outcome := runBit 3 .atHl s

/-- `BIT 3,A` (R350) -/
def execBit3A (s : State) : Outcome := runBit 3 (.reg .a) s

/-- `BIT 4,B` (R350) -/
def execBit4B (s : State) : Outcome := runBit 4 (.reg .b) s

/-- `BIT 4,C` (R350) -/
def execBit4C (s : State) : Outcome := runBit 4 (.reg .c) s

/-- `BIT 4,D` (R350) -/
def execBit4D (s : State) : Outcome := runBit 4 (.reg .d) s

/-- `BIT 4,E` (R350) -/
def execBit4E (s : State) : Outcome := runBit 4 (.reg .e) s

/-- `BIT 4,H` (R350) -/
def execBit4H (s : State) : Outcome := runBit 4 (.reg .h) s

/-- `BIT 4,L` (R350) -/
def execBit4L (s : State) : Outcome := runBit 4 (.reg .l) s

/-- `BIT 4,(HL)` (R350) -/
def execBit4AtHl (s : State) : Outcome := runBit 4 .atHl s

/-- `BIT 4,A` (R350) -/
def execBit4A (s : State) : Outcome := runBit 4 (.reg .a) s

/-- `BIT 5,B` (R350) -/
def execBit5B (s : State) : Outcome := runBit 5 (.reg .b) s

/-- `BIT 5,C` (R350) -/
def execBit5C (s : State) : Outcome := runBit 5 (.reg .c) s

/-- `BIT 5,D` (R350) -/
def execBit5D (s : State) : Outcome := runBit 5 (.reg .d) s

/-- `BIT 5,E` (R350) -/
def execBit5E (s : State) : Outcome := runBit 5 (.reg .e) s

/-- `BIT 5,H` (R350) -/
def execBit5H (s : State) : Outcome := runBit 5 (.reg .h) s

/-- `BIT 5,L` (R350) -/
def execBit5L (s : State) : Outcome := runBit 5 (.reg .l) s

/-- `BIT 5,(HL)` (R350) -/
def execBit5AtHl (s : State) : Outcome := runBit 5 .atHl s

/-- `BIT 5,A` (R350) -/
def execBit5A (s : State) : Outcome := runBit 5 (.reg .a) s

/-- `BIT 6,B` (R350) -/
def execBit6B (s : State) : Outcome := runBit 6 (.reg .b) s

/-- `BIT 6,C` (R350) -/
def execBit6C (s : State) : Outcome := runBit 6 (.reg .c) s

/-- `BIT 6,D` (R350) -/
def execBit6D (s : State) : Outcome := runBit 6 (.reg .d) s

/-- `BIT 6,E` (R350) -/
def execBit6E (s : State) : Outcome := runBit 6 (.reg .e) s

/-- `BIT 6,H` (R350) -/
def execBit6H (s : State) : Outcome := runBit 6 (.reg .h) s

/-- `BIT 6,L` (R350) -/
def execBit6L (s : State) : Outcome := runBit 6 (.reg .l) s

/-- `BIT 6,(HL)` (R350) -/
def execBit6AtHl (s : State) : Outcome := runBit 6 .atHl s

/-- `BIT 6,A` (R350) -/
def execBit6A (s : State) : Outcome := runBit 6 (.reg .a) s

/-- `BIT 7,B` (R350) -/
def execBit7B (s : State) : Outcome := runBit 7 (.reg .b) s

/-- `BIT 7,C` (R350) -/
def execBit7C (s : State) : Outcome := runBit 7 (.reg .c) s

/-- `BIT 7,D` (R350) -/
def execBit7D (s : State) : Outcome := runBit 7 (.reg .d) s

/-- `BIT 7,E` (R350) -/
def execBit7E (s : State) : Outcome := runBit 7 (.reg .e) s

/-- `BIT 7,H` (R350) -/
def execBit7H (s : State) : Outcome := runBit 7 (.reg .h) s

/-- `BIT 7,L` (R350) -/
def execBit7L (s : State) : Outcome := runBit 7 (.reg .l) s

/-- `BIT 7,(HL)` (R350) -/
def execBit7AtHl (s : State) : Outcome := runBit 7 .atHl s

/-- `BIT 7,A` (R350) -/
def execBit7A (s : State) : Outcome := runBit 7 (.reg .a) s

/-- `RES 0,B` (R351) -/
def execRes0B (s : State) : Outcome := runRes 0 (.reg .b) s

/-- `RES 0,C` (R351) -/
def execRes0C (s : State) : Outcome := runRes 0 (.reg .c) s

/-- `RES 0,D` (R351) -/
def execRes0D (s : State) : Outcome := runRes 0 (.reg .d) s

/-- `RES 0,E` (R351) -/
def execRes0E (s : State) : Outcome := runRes 0 (.reg .e) s

/-- `RES 0,H` (R351) -/
def execRes0H (s : State) : Outcome := runRes 0 (.reg .h) s

/-- `RES 0,L` (R351) -/
def execRes0L (s : State) : Outcome := runRes 0 (.reg .l) s

/-- `RES 0,(HL)` (R351) -/
def execRes0AtHl (s : State) : Outcome := runRes 0 .atHl s

/-- `RES 0,A` (R351) -/
def execRes0A (s : State) : Outcome := runRes 0 (.reg .a) s

/-- `RES 1,B` (R351) -/
def execRes1B (s : State) : Outcome := runRes 1 (.reg .b) s

/-- `RES 1,C` (R351) -/
def execRes1C (s : State) : Outcome := runRes 1 (.reg .c) s

/-- `RES 1,D` (R351) -/
def execRes1D (s : State) : Outcome := runRes 1 (.reg .d) s

/-- `RES 1,E` (R351) -/
def execRes1E (s : State) : Outcome := runRes 1 (.reg .e) s

/-- `RES 1,H` (R351) -/
def execRes1H (s : State) : Outcome := runRes 1 (.reg .h) s

/-- `RES 1,L` (R351) -/
def execRes1L (s : State) : Outcome := runRes 1 (.reg .l) s

/-- `RES 1,(HL)` (R351) -/
def execRes1AtHl (s : State) : Outcome := runRes 1 .atHl s

/-- `RES 1,A` (R351) -/
def execRes1A (s : State) : Outcome := runRes 1 (.reg .a) s

/-- `RES 2,B` (R351) -/
def execRes2B (s : State) : Outcome := runRes 2 (.reg .b) s

/-- `RES 2,C` (R351) -/
def execRes2C (s : State) : Outcome := runRes 2 (.reg .c) s

/-- `RES 2,D` (R351) -/
def execRes2D (s : State) : Outcome := runRes 2 (.reg .d) s

/-- `RES 2,E` (R351) -/
def execRes2E (s : State) : Outcome := runRes 2 (.reg .e) s

/-- `RES 2,H` (R351) -/
def execRes2H (s : State) : Outcome := runRes 2 (.reg .h) s

/-- `RES 2,L` (R351) -/
def execRes2L (s : State) : Outcome := runRes 2 (.reg .l) s

/-- `RES 2,(HL)` (R351) -/
def execRes2AtHl (s : State) : Outcome := runRes 2 .atHl s

/-- `RES 2,A` (R351) -/
def execRes2A (s : State) : Outcome := runRes 2 (.reg .a) s

/-- `RES 3,B` (R351) -/
def execRes3B (s : State) : Outcome := runRes 3 (.reg .b) s

/-- `RES 3,C` (R351) -/
def execRes3C (s : State) : Outcome := runRes 3 (.reg .c) s

/-- `RES 3,D` (R351) -/
def execRes3D (s : State) : Outcome := runRes 3 (.reg .d) s

/-- `RES 3,E` (R351) -/
def execRes3E (s : State) : Outcome := runRes 3 (.reg .e) s

/-- `RES 3,H` (R351) -/
def execRes3H (s : State) : Outcome := runRes 3 (.reg .h) s

/-- `RES 3,L` (R351) -/
def execRes3L (s : State) : Outcome := runRes 3 (.reg .l) s

/-- `RES 3,(HL)` (R351) -/
def execRes3AtHl (s : State) : Outcome := runRes 3 .atHl s

/-- `RES 3,A` (R351) -/
def execRes3A (s : State) : Outcome := runRes 3 (.reg .a) s

/-- `RES 4,B` (R351) -/
def execRes4B (s : State) : Outcome := runRes 4 (.reg .b) s

/-- `RES 4,C` (R351) -/
def execRes4C (s : State) : Outcome := runRes 4 (.reg .c) s

/-- `RES 4,D` (R351) -/
def execRes4D (s : State) : Outcome := runRes 4 (.reg .d) s

/-- `RES 4,E` (R351) -/
def execRes4E (s : State) : Outcome := runRes 4 (.reg .e) s

/-- `RES 4,H` (R351) -/
def execRes4H (s : State) : Outcome := runRes 4 (.reg .h) s

/-- `RES 4,L` (R351) -/
def execRes4L (s : State) : Outcome := runRes 4 (.reg .l) s

/-- `RES 4,(HL)` (R351) -/
def execRes4AtHl (s : State) : Outcome := runRes 4 .atHl s

/-- `RES 4,A` (R351) -/
def execRes4A (s : State) : Outcome := runRes 4 (.reg .a) s

/-- `RES 5,B` (R351) -/
def execRes5B (s : State) : Outcome := runRes 5 (.reg .b) s

/-- `RES 5,C` (R351) -/
def execRes5C (s : State) : Outcome := runRes 5 (.reg .c) s

/-- `RES 5,D` (R351) -/
def execRes5D (s : State) : Outcome := runRes 5 (.reg .d) s

/-- `RES 5,E` (R351) -/
def execRes5E (s : State) : Outcome := runRes 5 (.reg .e) s

/-- `RES 5,H` (R351) -/
def execRes5H (s : State) : Outcome := runRes 5 (.reg .h) s

/-- `RES 5,L` (R351) -/
def execRes5L (s : State) : Outcome := runRes 5 (.reg .l) s

/-- `RES 5,(HL)` (R351) -/
def execRes5AtHl (s : State) : Outcome := runRes 5 .atHl s

/-- `RES 5,A` (R351) -/
def execRes5A (s : State) : Outcome := runRes 5 (.reg .a) s

/-- `RES 6,B` (R351) -/
def execRes6B (s : State) : Outcome := runRes 6 (.reg .b) s

/-- `RES 6,C` (R351) -/
def execRes6C (s : State) : Outcome := runRes 6 (.reg .c) s

/-- `RES 6,D` (R351) -/
def execRes6D (s : State) : Outcome := runRes 6 (.reg .d) s

/-- `RES 6,E` (R351) -/
def execRes6E (s : State) : Outcome := runRes 6 (.reg .e) s

/-- `RES 6,H` (R351) -/
def execRes6H (s : State) : Outcome := runRes 6 (.reg .h) s

/-- `RES 6,L` (R351) -/
def execRes6L (s : State) : Outcome := runRes 6 (.reg .l) s

/-- `RES 6,(HL)` (R351) -/
def execRes6AtHl (s : State) : Outcome := runRes 6 .atHl s

/-- `RES 6,A` (R351) -/
def execRes6A (s : State) : Outcome := runRes 6 (.reg .a) s

/-- `RES 7,B` (R351) -/
def execRes7B (s : State) : Outcome := runRes 7 (.reg .b) s

/-- `RES 7,C` (R351) -/
def execRes7C (s : State) : Outcome := runRes 7 (.reg .c) s

/-- `RES 7,D` (R351) -/
def execRes7D (s : State) : Outcome := runRes 7 (.reg .d) s

/-- `RES 7,E` (R351) -/
def execRes7E (s : State) : Outcome := runRes 7 (.reg .e) s

/-- `RES 7,H` (R351) -/
def execRes7H (s : State) : Outcome := runRes 7 (.reg .h) s

/-- `RES 7,L` (R351) -/
def execRes7L (s : State) : Outcome := runRes 7 (.reg .l) s

/-- `RES 7,(HL)` (R351) -/
def execRes7AtHl (s : State) : Outcome := runRes 7 .atHl s

/-- `RES 7,A` (R351) -/
def execRes7A (s : State) : Outcome := runRes 7 (.reg .a) s

/-- `SET 0,B` (R352) -/
def execSet0B (s : State) : Outcome := runSet 0 (.reg .b) s

/-- `SET 0,C` (R352) -/
def execSet0C (s : State) : Outcome := runSet 0 (.reg .c) s

/-- `SET 0,D` (R352) -/
def execSet0D (s : State) : Outcome := runSet 0 (.reg .d) s

/-- `SET 0,E` (R352) -/
def execSet0E (s : State) : Outcome := runSet 0 (.reg .e) s

/-- `SET 0,H` (R352) -/
def execSet0H (s : State) : Outcome := runSet 0 (.reg .h) s

/-- `SET 0,L` (R352) -/
def execSet0L (s : State) : Outcome := runSet 0 (.reg .l) s

/-- `SET 0,(HL)` (R352) -/
def execSet0AtHl (s : State) : Outcome := runSet 0 .atHl s

/-- `SET 0,A` (R352) -/
def execSet0A (s : State) : Outcome := runSet 0 (.reg .a) s

/-- `SET 1,B` (R352) -/
def execSet1B (s : State) : Outcome := runSet 1 (.reg .b) s

/-- `SET 1,C` (R352) -/
def execSet1C (s : State) : Outcome := runSet 1 (.reg .c) s

/-- `SET 1,D` (R352) -/
def execSet1D (s : State) : Outcome := runSet 1 (.reg .d) s

/-- `SET 1,E` (R352) -/
def execSet1E (s : State) : Outcome := runSet 1 (.reg .e) s

/-- `SET 1,H` (R352) -/
def execSet1H (s : State) : Outcome := runSet 1 (.reg .h) s

/-- `SET 1,L` (R352) -/
def execSet1L (s : State) : Outcome := runSet 1 (.reg .l) s

/-- `SET 1,(HL)` (R352) -/
def execSet1AtHl (s : State) : Outcome := runSet 1 .atHl s

/-- `SET 1,A` (R352) -/
def execSet1A (s : State) : Outcome := runSet 1 (.reg .a) s

/-- `SET 2,B` (R352) -/
def execSet2B (s : State) : Outcome := runSet 2 (.reg .b) s

/-- `SET 2,C` (R352) -/
def execSet2C (s : State) : Outcome := runSet 2 (.reg .c) s

/-- `SET 2,D` (R352) -/
def execSet2D (s : State) : Outcome := runSet 2 (.reg .d) s

/-- `SET 2,E` (R352) -/
def execSet2E (s : State) : Outcome := runSet 2 (.reg .e) s

/-- `SET 2,H` (R352) -/
def execSet2H (s : State) : Outcome := runSet 2 (.reg .h) s

/-- `SET 2,L` (R352) -/
def execSet2L (s : State) : Outcome := runSet 2 (.reg .l) s

/-- `SET 2,(HL)` (R352) -/
def execSet2AtHl (s : State) : Outcome := runSet 2 .atHl s

/-- `SET 2,A` (R352) -/
def execSet2A (s : State) : Outcome := runSet 2 (.reg .a) s

/-- `SET 3,B` (R352) -/
def execSet3B (s : State) : Outcome := runSet 3 (.reg .b) s

/-- `SET 3,C` (R352) -/
def execSet3C (s : State) : Outcome := runSet 3 (.reg .c) s

/-- `SET 3,D` (R352) -/
def execSet3D (s : State) : Outcome := runSet 3 (.reg .d) s

/-- `SET 3,E` (R352) -/
def execSet3E (s : State) : Outcome := runSet 3 (.reg .e) s

/-- `SET 3,H` (R352) -/
def execSet3H (s : State) : Outcome := runSet 3 (.reg .h) s

/-- `SET 3,L` (R352) -/
def execSet3L (s : State) : Outcome := runSet 3 (.reg .l) s

/-- `SET 3,(HL)` (R352) -/
def execSet3AtHl (s : State) : Outcome := runSet 3 .atHl s

/-- `SET 3,A` (R352) -/
def execSet3A (s : State) : Outcome := runSet 3 (.reg .a) s

/-- `SET 4,B` (R352) -/
def execSet4B (s : State) : Outcome := runSet 4 (.reg .b) s

/-- `SET 4,C` (R352) -/
def execSet4C (s : State) : Outcome := runSet 4 (.reg .c) s

/-- `SET 4,D` (R352) -/
def execSet4D (s : State) : Outcome := runSet 4 (.reg .d) s

/-- `SET 4,E` (R352) -/
def execSet4E (s : State) : Outcome := runSet 4 (.reg .e) s

/-- `SET 4,H` (R352) -/
def execSet4H (s : State) : Outcome := runSet 4 (.reg .h) s

/-- `SET 4,L` (R352) -/
def execSet4L (s : State) : Outcome := runSet 4 (.reg .l) s

/-- `SET 4,(HL)` (R352) -/
def execSet4AtHl (s : State) : Outcome := runSet 4 .atHl s

/-- `SET 4,A` (R352) -/
def execSet4A (s : State) : Outcome := runSet 4 (.reg .a) s

/-- `SET 5,B` (R352) -/
def execSet5B (s : State) : Outcome := runSet 5 (.reg .b) s

/-- `SET 5,C` (R352) -/
def execSet5C (s : State) : Outcome := runSet 5 (.reg .c) s

/-- `SET 5,D` (R352) -/
def execSet5D (s : State) : Outcome := runSet 5 (.reg .d) s

/-- `SET 5,E` (R352) -/
def execSet5E (s : State) : Outcome := runSet 5 (.reg .e) s

/-- `SET 5,H` (R352) -/
def execSet5H (s : State) : Outcome := runSet 5 (.reg .h) s

/-- `SET 5,L` (R352) -/
def execSet5L (s : State) : Outcome := runSet 5 (.reg .l) s

/-- `SET 5,(HL)` (R352) -/
def execSet5AtHl (s : State) : Outcome := runSet 5 .atHl s

/-- `SET 5,A` (R352) -/
def execSet5A (s : State) : Outcome := runSet 5 (.reg .a) s

/-- `SET 6,B` (R352) -/
def execSet6B (s : State) : Outcome := runSet 6 (.reg .b) s

/-- `SET 6,C` (R352) -/
def execSet6C (s : State) : Outcome := runSet 6 (.reg .c) s

/-- `SET 6,D` (R352) -/
def execSet6D (s : State) : Outcome := runSet 6 (.reg .d) s

/-- `SET 6,E` (R352) -/
def execSet6E (s : State) : Outcome := runSet 6 (.reg .e) s

/-- `SET 6,H` (R352) -/
def execSet6H (s : State) : Outcome := runSet 6 (.reg .h) s

/-- `SET 6,L` (R352) -/
def execSet6L (s : State) : Outcome := runSet 6 (.reg .l) s

/-- `SET 6,(HL)` (R352) -/
def execSet6AtHl (s : State) : Outcome := runSet 6 .atHl s

/-- `SET 6,A` (R352) -/
def execSet6A (s : State) : Outcome := runSet 6 (.reg .a) s

/-- `SET 7,B` (R352) -/
def execSet7B (s : State) : Outcome := runSet 7 (.reg .b) s

/-- `SET 7,C` (R352) -/
def execSet7C (s : State) : Outcome := runSet 7 (.reg .c) s

/-- `SET 7,D` (R352) -/
def execSet7D (s : State) : Outcome := runSet 7 (.reg .d) s

/-- `SET 7,E` (R352) -/
def execSet7E (s : State) : Outcome := runSet 7 (.reg .e) s

/-- `SET 7,H` (R352) -/
def execSet7H (s : State) : Outcome := runSet 7 (.reg .h) s

/-- `SET 7,L` (R352) -/
def execSet7L (s : State) : Outcome := runSet 7 (.reg .l) s

/-- `SET 7,(HL)` (R352) -/
def execSet7AtHl (s : State) : Outcome := runSet 7 .atHl s

/-- `SET 7,A` (R352) -/
def execSet7A (s : State) : Outcome := runSet 7 (.reg .a) s

end Sys2Proof.Machine
end

