-- ==== Sys2Proof/Machine/Control.lean ====
section
/-! DEFINITION. Jumps, calls, returns and restarts (spec 44_control.md R380-R397): the operation of each rule, then the meaning of
each row of the opcode table. -/

namespace Sys2Proof.Machine

/-! ## The rules -/

/-- Pushes the return address and jumps (R392, R393, R396). -/
def callTo (target npc : Word) (s : State) : State := (push16 npc s).setPc target

/-- Pops PC (R394, R395). -/
def popPc (s : State) : State := (popSp s).setPc (popValue s)

/-- `JP a16` (R381). -/
def runJp (aa : Word) : State → Outcome := executeJump (.plain 3 16) fun _ s => s.setPc aa

/-- `JP cc,a16` (R382). -/
def runJpCond (cc : Cond) (aa : Word) (s : State) : Outcome := executeCond ⟨3, 12, 16⟩ (s.cond cc) (fun _ t => t.setPc aa) s

/-- `JP HL` (R383). -/
def runJpHl : State → Outcome := executeJump (.plain 1 4) fun _ s => s.setPc s.hl

/-- `JR e8` (R390). -/
def runJr (e : Byte) : State → Outcome := executeJump (.plain 2 12) fun npc s => s.setPc (npc + Byte.sext e)

/-- `JR cc,e8` (R391). -/
def runJrCond (cc : Cond) (e : Byte) (s : State) : Outcome :=
  executeCond ⟨2, 8, 12⟩ (s.cond cc) (fun npc t => t.setPc (npc + Byte.sext e)) s

/-- `CALL a16` (R392). -/
def runCall (aa : Word) : State → Outcome := executeJump (.plain 3 24) (callTo aa)

/-- `CALL cc,a16` (R393). -/
def runCallCond (cc : Cond) (aa : Word) (s : State) : Outcome := executeCond ⟨3, 12, 24⟩ (s.cond cc) (callTo aa) s

/-- `RET` (R394). -/
def runRet : State → Outcome := executeJump (.plain 1 16) fun _ s => popPc s

/-- `RET cc` (R395). -/
def runRetCond (cc : Cond) (s : State) : Outcome := executeCond ⟨1, 8, 20⟩ (s.cond cc) (fun _ t => popPc t) s

/-- `RST n`, n = y × 8 (R396). -/
def runRst (y : BitVec 3) : State → Outcome := executeJump (.plain 1 16) (callTo (8 * y.zeroExtend 16))

/-- `RETI` (R397). -/
def runReti : State → Outcome := executeJump (.plain 1 16) fun _ s => returnFromInterrupt s

/-! ## The instructions -/

/-- `JR e8` (R390) -/
def execJrE8 (e : Byte) (s : State) : Outcome := runJr e s

/-- `JR NZ,e8` (R391) -/
def execJrNzE8 (e : Byte) (s : State) : Outcome := runJrCond .nz e s

/-- `JR Z,e8` (R391) -/
def execJrZE8 (e : Byte) (s : State) : Outcome := runJrCond .z e s

/-- `JR NC,e8` (R391) -/
def execJrNcE8 (e : Byte) (s : State) : Outcome := runJrCond .nc e s

/-- `JR C,e8` (R391) -/
def execJrCE8 (e : Byte) (s : State) : Outcome := runJrCond .c e s

/-- `RET NZ` (R395) -/
def execRetNz (s : State) : Outcome := runRetCond .nz s

/-- `JP NZ,a16` (R382) -/
def execJpNzA16 (aa : Word) (s : State) : Outcome := runJpCond .nz aa s

/-- `JP a16` (R381) -/
def execJpA16 (aa : Word) (s : State) : Outcome := runJp aa s

/-- `CALL NZ,a16` (R393) -/
def execCallNzA16 (aa : Word) (s : State) : Outcome := runCallCond .nz aa s

/-- `RST 0x00` (R396) -/
def execRst00 (s : State) : Outcome := runRst 0 s

/-- `RET Z` (R395) -/
def execRetZ (s : State) : Outcome := runRetCond .z s

/-- `RET` (R394) -/
def execRet (s : State) : Outcome := runRet s

/-- `JP Z,a16` (R382) -/
def execJpZA16 (aa : Word) (s : State) : Outcome := runJpCond .z aa s

/-- `CALL Z,a16` (R393) -/
def execCallZA16 (aa : Word) (s : State) : Outcome := runCallCond .z aa s

/-- `CALL a16` (R392) -/
def execCallA16 (aa : Word) (s : State) : Outcome := runCall aa s

/-- `RST 0x08` (R396) -/
def execRst08 (s : State) : Outcome := runRst 1 s

/-- `RET NC` (R395) -/
def execRetNc (s : State) : Outcome := runRetCond .nc s

/-- `JP NC,a16` (R382) -/
def execJpNcA16 (aa : Word) (s : State) : Outcome := runJpCond .nc aa s

/-- `CALL NC,a16` (R393) -/
def execCallNcA16 (aa : Word) (s : State) : Outcome := runCallCond .nc aa s

/-- `RST 0x10` (R396) -/
def execRst10 (s : State) : Outcome := runRst 2 s

/-- `RET C` (R395) -/
def execRetC (s : State) : Outcome := runRetCond .c s

/-- `RETI` (R397) -/
def execReti (s : State) : Outcome := runReti s

/-- `JP C,a16` (R382) -/
def execJpCA16 (aa : Word) (s : State) : Outcome := runJpCond .c aa s

/-- `CALL C,a16` (R393) -/
def execCallCA16 (aa : Word) (s : State) : Outcome := runCallCond .c aa s

/-- `RST 0x18` (R396) -/
def execRst18 (s : State) : Outcome := runRst 3 s

/-- `RST 0x20` (R396) -/
def execRst20 (s : State) : Outcome := runRst 4 s

/-- `JP HL` (R383) -/
def execJpHl (s : State) : Outcome := runJpHl s

/-- `RST 0x28` (R396) -/
def execRst28 (s : State) : Outcome := runRst 5 s

/-- `RST 0x30` (R396) -/
def execRst30 (s : State) : Outcome := runRst 6 s

/-- `RST 0x38` (R396) -/
def execRst38 (s : State) : Outcome := runRst 7 s

end Sys2Proof.Machine
end

