-- ==== Sys2Proof/Machine/Load.lean ====
section
/-! DEFINITION. Loads, stores and stack transfers (spec 40_load.md R200-R243): the operation of each rule, then the meaning of each
row of the opcode table. -/

namespace Sys2Proof.Machine

/-! ## The rules -/

/-- `LD r,r'` (R200). -/
def runLdRegReg (dst src : Reg8) : State → Outcome := executeDefault (.plain 1 4) fun s => s.setReg dst (s.getReg src)

/-- `LD r,(HL)` (R201). -/
def runLdRegHl (dst : Reg8) : State → Outcome := executeDefault (.plain 1 8) fun s => s.setReg dst (memRead s s.hl)

/-- `LD (HL),r` (R202). -/
def runLdHlReg (src : Reg8) : State → Outcome := executeDefault (.plain 1 8) fun s => memWrite s.hl (s.getReg src) s

/-- `LD r,d8` (R203). -/
def runLdRegImm (dst : Reg8) (n : Byte) : State → Outcome := executeDefault (.plain 2 8) fun s => s.setReg dst n

/-- `LD (HL),d8` (R204). -/
def runLdHlImm (n : Byte) : State → Outcome := executeDefault (.plain 2 12) fun s => memWrite s.hl n s

/-- `LD A,(BC)` (R205). -/
def runLdABc : State → Outcome := executeDefault (.plain 1 8) fun s => s.setReg .a (memRead s (s.getPair .bc))

/-- `LD A,(DE)` (R206). -/
def runLdADe : State → Outcome := executeDefault (.plain 1 8) fun s => s.setReg .a (memRead s (s.getPair .de))

/-- `LD (BC),A` (R207). -/
def runLdBcA : State → Outcome := executeDefault (.plain 1 8) fun s => memWrite (s.getPair .bc) s.regs.a s

/-- `LD (DE),A` (R208). -/
def runLdDeA : State → Outcome := executeDefault (.plain 1 8) fun s => memWrite (s.getPair .de) s.regs.a s

/-- `LD A,(HL+)` (R209). -/
def runLdAHlInc : State → Outcome :=
  executeDefault (.plain 1 8) fun s => (s.setReg .a (memRead s s.hl)).setPair .hl (s.hl + 1)

/-- `LD A,(HL-)` (R210). -/
def runLdAHlDec : State → Outcome :=
  executeDefault (.plain 1 8) fun s => (s.setReg .a (memRead s s.hl)).setPair .hl (s.hl - 1)

/-- `LD (HL+),A` (R211). -/
def runLdHlIncA : State → Outcome :=
  executeDefault (.plain 1 8) fun s => (memWrite s.hl s.regs.a s).setPair .hl (s.hl + 1)

/-- `LD (HL-),A` (R212). -/
def runLdHlDecA : State → Outcome :=
  executeDefault (.plain 1 8) fun s => (memWrite s.hl s.regs.a s).setPair .hl (s.hl - 1)

/-- `LD A,(a16)` (R213). -/
def runLdAAbs (aa : Word) : State → Outcome := executeDefault (.plain 3 16) fun s => s.setReg .a (memRead s aa)

/-- `LD (a16),A` (R214). -/
def runLdAbsA (aa : Word) : State → Outcome := executeDefault (.plain 3 16) fun s => memWrite aa s.regs.a s

/-- `LDH A,(a8)` (R215). -/
def runLdhA (a : Byte) : State → Outcome := executeDefault (.plain 2 12) fun s => s.setReg .a (memRead s (highPage a))

/-- `LDH (a8),A` (R216). -/
def runLdhStore (a : Byte) : State → Outcome := executeDefault (.plain 2 12) fun s => memWrite (highPage a) s.regs.a s

/-- `LD A,(C)` (R217). -/
def runLdAHighC : State → Outcome := executeDefault (.plain 1 8) fun s => s.setReg .a (memRead s s.highC)

/-- `LD (C),A` (R218). -/
def runLdHighCA : State → Outcome := executeDefault (.plain 1 8) fun s => memWrite s.highC s.regs.a s

/-- `LD rr,d16` (R220). -/
def runLdPairImm (p : Pair16) (nn : Word) : State → Outcome := executeDefault (.plain 3 12) fun s => s.setPair p nn

/-- `LD SP,HL` (R221). -/
def runLdSpHl : State → Outcome := executeDefault (.plain 1 8) fun s => s.setSp s.hl

/-- `LD (a16),SP` (R222): the low byte first. -/
def runLdAbsSp (aa : Word) : State → Outcome :=
  executeDefault (.plain 3 20) fun s => memWrite (aa + 1) s.regs.sp.hi (memWrite aa s.regs.sp.lo s)

/-- `PUSH qq` (R242). -/
def runPush (q : StackPair) : State → Outcome := executeDefault (.plain 1 16) fun s => push16 (s.getStackPair q) s

/-- `POP qq` (R243). -/
def runPop (q : StackPair) : State → Outcome := executeDefault (.plain 1 12) fun s => (popSp s).setStackPair q (popValue s)

/-! ## The instructions -/

/-- `LD BC,d16` (R220) -/
def execLdBcD16 (nn : Word) (s : State) : Outcome := runLdPairImm .bc nn s

/-- `LD (BC),A` (R207) -/
def execLdAtBcA (s : State) : Outcome := runLdBcA s

/-- `LD B,d8` (R203) -/
def execLdBD8 (n : Byte) (s : State) : Outcome := runLdRegImm .b n s

/-- `LD (a16),SP` (R222) -/
def execLdAtA16Sp (aa : Word) (s : State) : Outcome := runLdAbsSp aa s

/-- `LD A,(BC)` (R205) -/
def execLdAAtBc (s : State) : Outcome := runLdABc s

/-- `LD C,d8` (R203) -/
def execLdCD8 (n : Byte) (s : State) : Outcome := runLdRegImm .c n s

/-- `LD DE,d16` (R220) -/
def execLdDeD16 (nn : Word) (s : State) : Outcome := runLdPairImm .de nn s

/-- `LD (DE),A` (R208) -/
def execLdAtDeA (s : State) : Outcome := runLdDeA s

/-- `LD D,d8` (R203) -/
def execLdDD8 (n : Byte) (s : State) : Outcome := runLdRegImm .d n s

/-- `LD A,(DE)` (R206) -/
def execLdAAtDe (s : State) : Outcome := runLdADe s

/-- `LD E,d8` (R203) -/
def execLdED8 (n : Byte) (s : State) : Outcome := runLdRegImm .e n s

/-- `LD HL,d16` (R220) -/
def execLdHlD16 (nn : Word) (s : State) : Outcome := runLdPairImm .hl nn s

/-- `LD (HL+),A` (R211) -/
def execLdAtHlIncA (s : State) : Outcome := runLdHlIncA s

/-- `LD H,d8` (R203) -/
def execLdHD8 (n : Byte) (s : State) : Outcome := runLdRegImm .h n s

/-- `LD A,(HL+)` (R209) -/
def execLdAAtHlInc (s : State) : Outcome := runLdAHlInc s

/-- `LD L,d8` (R203) -/
def execLdLD8 (n : Byte) (s : State) : Outcome := runLdRegImm .l n s

/-- `LD SP,d16` (R220) -/
def execLdSpD16 (nn : Word) (s : State) : Outcome := runLdPairImm .sp nn s

/-- `LD (HL-),A` (R212) -/
def execLdAtHlDecA (s : State) : Outcome := runLdHlDecA s

/-- `LD (HL),d8` (R204) -/
def execLdAtHlD8 (n : Byte) (s : State) : Outcome := runLdHlImm n s

/-- `LD A,(HL-)` (R210) -/
def execLdAAtHlDec (s : State) : Outcome := runLdAHlDec s

/-- `LD A,d8` (R203) -/
def execLdAD8 (n : Byte) (s : State) : Outcome := runLdRegImm .a n s

/-- `LD B,B` (R200) -/
def execLdBB (s : State) : Outcome := runLdRegReg .b .b s

/-- `LD B,C` (R200) -/
def execLdBC (s : State) : Outcome := runLdRegReg .b .c s

/-- `LD B,D` (R200) -/
def execLdBD (s : State) : Outcome := runLdRegReg .b .d s

/-- `LD B,E` (R200) -/
def execLdBE (s : State) : Outcome := runLdRegReg .b .e s

/-- `LD B,H` (R200) -/
def execLdBH (s : State) : Outcome := runLdRegReg .b .h s

/-- `LD B,L` (R200) -/
def execLdBL (s : State) : Outcome := runLdRegReg .b .l s

/-- `LD B,(HL)` (R201) -/
def execLdBAtHl (s : State) : Outcome := runLdRegHl .b s

/-- `LD B,A` (R200) -/
def execLdBA (s : State) : Outcome := runLdRegReg .b .a s

/-- `LD C,B` (R200) -/
def execLdCB (s : State) : Outcome := runLdRegReg .c .b s

/-- `LD C,C` (R200) -/
def execLdCC (s : State) : Outcome := runLdRegReg .c .c s

/-- `LD C,D` (R200) -/
def execLdCD (s : State) : Outcome := runLdRegReg .c .d s

/-- `LD C,E` (R200) -/
def execLdCE (s : State) : Outcome := runLdRegReg .c .e s

/-- `LD C,H` (R200) -/
def execLdCH (s : State) : Outcome := runLdRegReg .c .h s

/-- `LD C,L` (R200) -/
def execLdCL (s : State) : Outcome := runLdRegReg .c .l s

/-- `LD C,(HL)` (R201) -/
def execLdCAtHl (s : State) : Outcome := runLdRegHl .c s

/-- `LD C,A` (R200) -/
def execLdCA (s : State) : Outcome := runLdRegReg .c .a s

/-- `LD D,B` (R200) -/
def execLdDB (s : State) : Outcome := runLdRegReg .d .b s

/-- `LD D,C` (R200) -/
def execLdDC (s : State) : Outcome := runLdRegReg .d .c s

/-- `LD D,D` (R200) -/
def execLdDD (s : State) : Outcome := runLdRegReg .d .d s

/-- `LD D,E` (R200) -/
def execLdDE (s : State) : Outcome := runLdRegReg .d .e s

/-- `LD D,H` (R200) -/
def execLdDH (s : State) : Outcome := runLdRegReg .d .h s

/-- `LD D,L` (R200) -/
def execLdDL (s : State) : Outcome := runLdRegReg .d .l s

/-- `LD D,(HL)` (R201) -/
def execLdDAtHl (s : State) : Outcome := runLdRegHl .d s

/-- `LD D,A` (R200) -/
def execLdDA (s : State) : Outcome := runLdRegReg .d .a s

/-- `LD E,B` (R200) -/
def execLdEB (s : State) : Outcome := runLdRegReg .e .b s

/-- `LD E,C` (R200) -/
def execLdEC (s : State) : Outcome := runLdRegReg .e .c s

/-- `LD E,D` (R200) -/
def execLdED (s : State) : Outcome := runLdRegReg .e .d s

/-- `LD E,E` (R200) -/
def execLdEE (s : State) : Outcome := runLdRegReg .e .e s

/-- `LD E,H` (R200) -/
def execLdEH (s : State) : Outcome := runLdRegReg .e .h s

/-- `LD E,L` (R200) -/
def execLdEL (s : State) : Outcome := runLdRegReg .e .l s

/-- `LD E,(HL)` (R201) -/
def execLdEAtHl (s : State) : Outcome := runLdRegHl .e s

/-- `LD E,A` (R200) -/
def execLdEA (s : State) : Outcome := runLdRegReg .e .a s

/-- `LD H,B` (R200) -/
def execLdHB (s : State) : Outcome := runLdRegReg .h .b s

/-- `LD H,C` (R200) -/
def execLdHC (s : State) : Outcome := runLdRegReg .h .c s

/-- `LD H,D` (R200) -/
def execLdHD (s : State) : Outcome := runLdRegReg .h .d s

/-- `LD H,E` (R200) -/
def execLdHE (s : State) : Outcome := runLdRegReg .h .e s

/-- `LD H,H` (R200) -/
def execLdHH (s : State) : Outcome := runLdRegReg .h .h s

/-- `LD H,L` (R200) -/
def execLdHL (s : State) : Outcome := runLdRegReg .h .l s

/-- `LD H,(HL)` (R201) -/
def execLdHAtHl (s : State) : Outcome := runLdRegHl .h s

/-- `LD H,A` (R200) -/
def execLdHA (s : State) : Outcome := runLdRegReg .h .a s

/-- `LD L,B` (R200) -/
def execLdLB (s : State) : Outcome := runLdRegReg .l .b s

/-- `LD L,C` (R200) -/
def execLdLC (s : State) : Outcome := runLdRegReg .l .c s

/-- `LD L,D` (R200) -/
def execLdLD (s : State) : Outcome := runLdRegReg .l .d s

/-- `LD L,E` (R200) -/
def execLdLE (s : State) : Outcome := runLdRegReg .l .e s

/-- `LD L,H` (R200) -/
def execLdLH (s : State) : Outcome := runLdRegReg .l .h s

/-- `LD L,L` (R200) -/
def execLdLL (s : State) : Outcome := runLdRegReg .l .l s

/-- `LD L,(HL)` (R201) -/
def execLdLAtHl (s : State) : Outcome := runLdRegHl .l s

/-- `LD L,A` (R200) -/
def execLdLA (s : State) : Outcome := runLdRegReg .l .a s

/-- `LD (HL),B` (R202) -/
def execLdAtHlB (s : State) : Outcome := runLdHlReg .b s

/-- `LD (HL),C` (R202) -/
def execLdAtHlC (s : State) : Outcome := runLdHlReg .c s

/-- `LD (HL),D` (R202) -/
def execLdAtHlD (s : State) : Outcome := runLdHlReg .d s

/-- `LD (HL),E` (R202) -/
def execLdAtHlE (s : State) : Outcome := runLdHlReg .e s

/-- `LD (HL),H` (R202) -/
def execLdAtHlH (s : State) : Outcome := runLdHlReg .h s

/-- `LD (HL),L` (R202) -/
def execLdAtHlL (s : State) : Outcome := runLdHlReg .l s

/-- `LD (HL),A` (R202) -/
def execLdAtHlA (s : State) : Outcome := runLdHlReg .a s

/-- `LD A,B` (R200) -/
def execLdAB (s : State) : Outcome := runLdRegReg .a .b s

/-- `LD A,C` (R200) -/
def execLdAC (s : State) : Outcome := runLdRegReg .a .c s

/-- `LD A,D` (R200) -/
def execLdAD (s : State) : Outcome := runLdRegReg .a .d s

/-- `LD A,E` (R200) -/
def execLdAE (s : State) : Outcome := runLdRegReg .a .e s

/-- `LD A,H` (R200) -/
def execLdAH (s : State) : Outcome := runLdRegReg .a .h s

/-- `LD A,L` (R200) -/
def execLdAL (s : State) : Outcome := runLdRegReg .a .l s

/-- `LD A,(HL)` (R201) -/
def execLdAAtHl (s : State) : Outcome := runLdRegHl .a s

/-- `LD A,A` (R200) -/
def execLdAA (s : State) : Outcome := runLdRegReg .a .a s

/-- `POP BC` (R243) -/
def execPopBc (s : State) : Outcome := runPop .bc s

/-- `PUSH BC` (R242) -/
def execPushBc (s : State) : Outcome := runPush .bc s

/-- `POP DE` (R243) -/
def execPopDe (s : State) : Outcome := runPop .de s

/-- `PUSH DE` (R242) -/
def execPushDe (s : State) : Outcome := runPush .de s

/-- `LDH (a8),A` (R216) -/
def execLdhAtA8A (a : Byte) (s : State) : Outcome := runLdhStore a s

/-- `POP HL` (R243) -/
def execPopHl (s : State) : Outcome := runPop .hl s

/-- `LD (C),A` (R218) -/
def execLdAtCA (s : State) : Outcome := runLdHighCA s

/-- `PUSH HL` (R242) -/
def execPushHl (s : State) : Outcome := runPush .hl s

/-- `LD (a16),A` (R214) -/
def execLdAtA16A (aa : Word) (s : State) : Outcome := runLdAbsA aa s

/-- `LDH A,(a8)` (R215) -/
def execLdhAAtA8 (a : Byte) (s : State) : Outcome := runLdhA a s

/-- `POP AF` (R243) -/
def execPopAf (s : State) : Outcome := runPop .af s

/-- `LD A,(C)` (R217) -/
def execLdAAtC (s : State) : Outcome := runLdAHighC s

/-- `PUSH AF` (R242) -/
def execPushAf (s : State) : Outcome := runPush .af s

/-- `LD SP,HL` (R221) -/
def execLdSpHl (s : State) : Outcome := runLdSpHl s

/-- `LD A,(a16)` (R213) -/
def execLdAAtA16 (aa : Word) (s : State) : Outcome := runLdAAbs aa s

end Sys2Proof.Machine
end

