-- ==== Sys2Proof/Machine/System.lean ====
section
/-! DEFINITION. No-op, power states and interrupt enable (spec 45_system.md R420-R431): the operation of each rule, then the meaning
of each row of the opcode table. -/

namespace Sys2Proof.Machine

/-! ## The rules -/

/-- `NOP` (R420). -/
def runNop : State → Outcome := executeDefault (.plain 1 4) fun s => s

/-- HALT's effect (R421, parameter `HALT_BUG_MODE`): with IME = 0 and a request pending the hardware does not halt and sets
`halt_bug` (60_exceptions.md R485). -/
def enterHalt (s : State) : State :=
  if s.params.haltBugMode = .hardware ∧ s.ime = false ∧ s.pending ≠ 0 then { s with haltBug := true }
  else { s with halted := true }

/-- `HALT` (R421). -/
def runHalt : State → Outcome := executeDefault (.plain 1 4) enterHalt

/-- `STOP` (R422): the second byte is not interpreted. -/
def runStop (_x : Byte) : State → Outcome := executeDefault (.plain 2 4) fun s => { s with stopped := true }

/-- `DI` (R430). -/
def runDi : State → Outcome := executeDefault (.plain 1 4) fun s => { s with ime := false, eiDelay := 0 }

/-- `EI` (R431). -/
def runEi : State → Outcome :=
  executeDefault (.plain 1 4) fun s => if s.eiDelay = 0 then { s with eiDelay := 2 } else s

/-! ## The instructions -/

/-- `NOP` (R420) -/
def execNop (s : State) : Outcome := runNop s

/-- `STOP` (R422) -/
def execStop (x : Byte) (s : State) : Outcome := runStop x s

/-- `HALT` (R421) -/
def execHalt (s : State) : Outcome := runHalt s

/-- `DI` (R430) -/
def execDi (s : State) : Outcome := runDi s

/-- `EI` (R431) -/
def execEi (s : State) : Outcome := runEi s

end Sys2Proof.Machine
end

