-- ==== Sys2Proof/Machine/Cpu.lean ====
section
/-! DEFINITION. The CPU step and the machine step (spec 60_exceptions.md R450-R490, 20_memory.md R140), and the placing of an
instruction where the next step fetches it. -/

namespace Sys2Proof.Machine

/-! ## The CPU step (R450) -/

/-- The byte at PC + `k`, read one address early under the halt bug when `k` is not 0 (R485). -/
def fetchByte (s : State) (k : Nat) : Byte := memRead s (s.regs.pc + BitVec.ofNat 16 k - s.haltBugBytes)

/-- Step 0: a stopped CPU stays stopped until IF[4] = 1 (R488). -/
def staysStopped (s : State) : Bool := s.stopped && !Byte.bit s.regIF 4

/-- Step 0: the wake from stop. -/
def wakeFromStop (s : State) : State := { s with stopped := false }

/-- Step 3: the wake from halt; in `source` mode with IME = 0 it sets `halt_bug` (R480, R486). -/
def wakeFromHalt (s : State) : State :=
  if s.halted = true ∧ s.pending ≠ 0 then
    { s with
        halted  := false
        haltBug := s.haltBug || (s.params.haltBugMode == .source && !s.ime) }
  else s

/-- The bytes of the instruction at PC. The opcode and a CB second byte are read at step 1; the operand bytes are read by the
handler at step 6, after the wake of step 3 (R450; log 10). -/
def instrBytes (s : State) : List Byte :=
  let op := memRead s s.regs.pc
  if op = 0xCB then [op, fetchByte s 1, 0]
  else [op, fetchByte (wakeFromHalt s) 1, fetchByte (wakeFromHalt s) 2]

/-- The one exception (R455): the fault is recorded, and nothing else changes. The step returns no cycle count (logs 8, 9). -/
def recordFault (op : Byte) (s : State) : State :=
  { s with fault := some (.illegalOpcode s.regs.pc op), cycles := 0 }

/-- A step that changes nothing and costs 4 cycles (R481, R488). -/
def idle (s : State) : State := { s with cycles := 4 }

/-- Steps 3 to 7 for the decoded instruction (R450): wake, stay halted, serve an interrupt, or execute. -/
def runInstr (i : Instr) (s : State) : Outcome :=
  let s := wakeFromHalt s
  if s.halted then .next (idle s)
  else if s.ime = true ∧ s.pending ≠ 0 then .next (dispatchInterrupt s)
  else
    match exec i s with
    | .next t => .next (endOfStep t)
    | .fault r => .fault r
    | .refused r => .refused r

/-- `CpuStep()` (R450). The instruction's three bytes are never too few to decode. -/
def cpuStep (s : State) : Outcome :=
  if staysStopped s then .next (idle s)
  else
    match decode (instrBytes (wakeFromStop s)) with
    | .ok i _ => runInstr i (wakeFromStop s)
    | .noDescriptor op => .next (recordFault op s)
    | .truncated => .next (recordFault (memRead s s.regs.pc) s)

/-! ## The machine step (20_memory.md R140) -/

/-- What the host does before a step: the events of the last step are taken, and the next button mask is set (R142, R531). -/
def beginStep (s : State) : State := { pollButtons s with out := [] }

/-- After the CPU step the devices advance by its cycles, unless it recorded a fault (R455). -/
def finishStep (s : State) : State := if s.fault.isSome then s else advanceDevices s.cycles s

/-- The machine step. A faulted state has no next state (R452). -/
def machineStep (s : State) : Outcome :=
  match s.fault with
  | some r => .fault r
  | none =>
    match cpuStep (beginStep s) with
    | .next t => .next (finishStep t)
    | .fault r => .fault r
    | .refused r => .refused r

/-! ## Placing an instruction where the next step fetches it -/

/-- Whether an address is plain storage that an instruction can be placed in: ROM, VRAM, WRAM, OAM or HRAM. -/
def plainStorage (a : Word) : Bool :=
  match region a with
  | .rom _ | .vram _ | .wram _ | .oam _ | .hram _ => true
  | _ => false

/-- Places a byte in storage. In ROM space it goes into the cartridge image at the mapped offset, which grows if it must. -/
def placeByte (a : Word) (v : Byte) (s : State) : State :=
  match region a with
  | .rom n =>
    let off := s.cart.romOffset n
    let rom := s.cart.rom
    { s with cart := { s.cart with rom := ⟨max rom.size (off + 1), Cells.set rom.bytes off v⟩ } }
  | r => writeRegion s v r

/-- Places bytes from an address upward. -/
def placeBytes : Word → List Byte → State → State
  | _, [], s => s
  | a, v :: rest, s => placeBytes (a + 1) rest (placeByte a v s)

/-- Makes the next step reach step 6: running, awake, no halt bug, and no interrupt due (log 11). -/
def readyToExecute (s : State) : State :=
  { s with
      fault   := none
      stopped := false
      halted  := false
      haltBug := false
      ime     := s.ime && (pollButtons s).pending == 0 }

/-- PC stays if its three bytes are plain storage; else it moves to WRAM (log 11). -/
def atPlainPc (s : State) : State :=
  let pc := s.regs.pc
  if plainStorage pc && plainStorage (pc + 1) && plainStorage (pc + 2) then s else s.setPc 0xC000

/-- The state with a table word's instruction where the next step fetches it. -/
def placeTableWord (s : State) (nbits w : Nat) : State :=
  let s := atPlainPc (readyToExecute s)
  placeBytes s.regs.pc (tableBytes nbits w) s

end Sys2Proof.Machine
end

