-- ==== Sys2Proof/Safety.lean ====
section
/-! DEFINITION. What a sound state and a safe run are: the invariant of the machine, and running without a fault. -/

namespace Sys2Proof.Machine

/-- The flags byte keeps bits 3..0 clear (10_state.md R32). -/
def flagsOk (s : State) : Prop := s.regs.f &&& 0x0F = 0

/-- Every memory keeps its canonical form within its size (10_state.md R40). -/
def memoriesOk (s : State) : Prop :=
  Memory.wf 8192 s.wram ∧ Memory.wf 127 s.hram ∧ Memory.wf 8192 s.ppu.vram ∧ Memory.wf 160 s.ppu.oam ∧
  Memory.wf 16 s.sound.waveRam ∧ Memory.wf s.cart.ramSize s.cart.ram ∧ Memory.wf s.cart.rom.size s.cart.rom.bytes ∧
  Cells.Wf 160 s.ppu.bgIndex ∧ Cells.Wf 23040 s.ppu.fb

/-- Scheme B has 512 bytes of RAM (20_memory.md R125), and a bank register is never 0 where the controller clamps it (R122,
R125). -/
def cartOk (s : State) : Prop :=
  (s.cart.variant = .schemeB → s.cart.ramSize = 512) ∧ s.cart.romBank ≠ 0

/-- `mode_clock` stays below the current mode's threshold, lines 0 to 143 are visible, and lines 144 to 153 are those of mode 1
(61_picture_unit.md R560, R561). -/
def pictureOk (s : State) : Prop :=
  s.ppu.modeClock < s.ppu.mode.cycles ∧
  (s.ppu.mode = .vblank → 144 ≤ s.ppu.ly.toNat ∧ s.ppu.ly.toNat < 154) ∧
  (s.ppu.mode ≠ .vblank → s.ppu.ly.toNat < 144)

/-- `div_sub` is an accumulator of 0..255 (10_state.md R43). -/
def timerOk (s : State) : Prop := s.timer.divSub < 256

/-- The length counters hold 0..64, 0..256 for channel 3 (62_sound_unit.md R625), the frame sequencer's accumulator stays
below its period (R640), and less than one sample period is owed to the host (R672). -/
def soundOk (s : State) : Prop :=
  s.sound.ch1.ch.length ≤ 64 ∧ s.sound.ch2.ch.length ≤ 64 ∧ s.sound.ch3.ch.length ≤ 256 ∧ s.sound.ch4.ch.length ≤ 64 ∧
  s.sound.fsAcc < 8192 ∧ (0 < s.params.samplePeriodNum → s.sound.sampleAcc < s.params.samplePeriodNum)

/-- An enabled channel 3 has its DAC on, and an enabled channel 1, 2 or 4 has a nonzero NRx2 DAC field (62_sound_unit.md R622,
R630, R660). -/
def dacOk (s : State) : Prop :=
  (s.sound.ch1.ch.enabled = true → envDacOn s.sound.regs.nr12 = true) ∧
  (s.sound.ch2.ch.enabled = true → envDacOn s.sound.regs.nr22 = true) ∧
  (s.sound.ch3.ch.enabled = true → waveDacOn s.sound.regs.nr30 = true) ∧
  (s.sound.ch4.ch.enabled = true → envDacOn s.sound.regs.nr42 = true)

/-- At a step boundary a set halt bug means the CPU is awake (60_exceptions.md R485, R486), and an EI has at most one instruction
still to wait for (R490). -/
def controlOk (s : State) : Prop := (s.haltBug = true → s.halted = false) ∧ s.eiDelay ≠ 2

/-- The invariant of the machine. -/
structure State.Inv (s : State) : Prop where
  flags    : flagsOk s
  memories : memoriesOk s
  cart     : cartOk s
  picture  : pictureOk s
  timer    : timerOk s
  sound    : soundOk s
  dac      : dacOk s
  control  : controlOk s

/-- A running state (60_exceptions.md R452). -/
def State.running (s : State) : Prop := s.fault = none

/-- A run of `n` steps is safe when it takes them all and ends in a running state. -/
def safeRun (n : Nat) (s : State) : Prop := ∃ t, Host.Core.run Sys2Proof.core n s = .next t ∧ t.running

end Sys2Proof.Machine
end

