-- ==== Sys2Proof/Certificates/Slice0/Obligations.lean ====
section
/-! DEFINITION. The statements for the provers. First the words they are written in, then the statements: encoding, loads, 8-bit
arithmetic, 16-bit arithmetic, the CB table, control transfers, system instructions, the CPU step, memory, the timer and joypad, the
picture unit, the sound unit, reset and the invariant. An instruction is named by its rule, `i.shape`, so one statement covers every
constructor of that shape; each docstring lists the opcodes. -/

namespace Sys2Proof.Machine

/-! ## The words of the frames -/

/-- `t` differs from `s` in CPU registers, `halt_bug` and the cycle count only: every memory, device, interrupt and power state is
the same. -/
def OnlyCpu (s t : State) : Prop := t = { s with regs := t.regs, haltBug := t.haltBug, cycles := t.cycles }

/-- Every byte of the address space reads as before. -/
def BytesKept (s t : State) : Prop := ∀ a : Word, memRead t a = memRead s a

/-- Every 8-bit register but those of `except` keeps its value. -/
def RegsKept (except : List Reg8) (s t : State) : Prop := ∀ r, r ∉ except → t.getReg r = s.getReg r

/-- F keeps its value, all eight bits of it. -/
def FlagsKept (s t : State) : Prop := t.regs.f = s.regs.f

/-- F holds the four flags given in its bits 7, 6, 5 and 4, and bits 3..0 are 0 (R32). -/
def FlagsAre (t : State) (z n h c : Bool) : Prop :=
  t.regs.f.getLsbD 7 = z ∧ t.regs.f.getLsbD 6 = n ∧ t.regs.f.getLsbD 5 = h ∧ t.regs.f.getLsbD 4 = c ∧ t.regs.f &&& 0x0F = 0

/-- The address of the next instruction: PC + `len`, one less under the halt bug (R380). -/
def nextPc (s : State) (len : Nat) : Word := s.regs.pc + BitVec.ofNat 16 len - (if s.haltBug = true then 1 else 0)

/-- Retirement with the type `Default` (R171): PC past the instruction and `cyc` cycles; the halt bug is used up. -/
def Retires (s t : State) (len cyc : Nat) : Prop := t.regs.pc = nextPc s len ∧ t.cycles = cyc ∧ t.haltBug = false

/-- Retirement of a transfer to `target` (R171): `cyc` cycles; the halt bug is used up. -/
def Transfers (t : State) (target : Word) (cyc : Nat) : Prop := t.regs.pc = target ∧ t.cycles = cyc ∧ t.haltBug = false

/-- Nothing is stored: only CPU registers change, and every byte reads as before. -/
def StoresNothing (s t : State) : Prop := OnlyCpu s t ∧ BytesKept s t

/-- The one bus write of the instruction is `v` at `a`: outside the CPU registers `t` is `s` after that write, and every byte that the
write cannot affect (`storeAffects`: the written cell, its mirror, and the side effects of R87) reads as before. -/
def StoresByte (s t : State) (a : Word) (v : Byte) : Prop :=
  OnlyCpu (memWrite a v s) t ∧ ∀ b : Word, storeAffects s a b = false → memRead t b = memRead s b

/-- The two bus writes of the instruction are `v1` at `a1`, then `v2` at `a2`. -/
def StoresTwo (s t : State) (a1 : Word) (v1 : Byte) (a2 : Word) (v2 : Byte) : Prop :=
  OnlyCpu (memWrite a2 v2 (memWrite a1 v1 s)) t ∧
  ∀ b : Word, storeAffects s a1 b = false → storeAffects (memWrite a1 v1 s) a2 b = false → memRead t b = memRead s b

/-- `Push16(v)` (R240): SP drops by 2; the high byte goes to SP + 1, then the low byte to SP. -/
def Pushes (s t : State) (v : Word) : Prop :=
  t.regs.sp = s.regs.sp - 2 ∧
  StoresTwo s t (s.regs.sp - 2 + 1) (v.extractLsb' 8 8) (s.regs.sp - 2) (v.extractLsb' 0 8)

/-- The value `Pop16()` returns (R241): the low byte at SP, the high byte at SP + 1. -/
def popped (s : State) : Word := memRead s (s.regs.sp + 1) ++ memRead s s.regs.sp

/-- The value of HL, of BC, of DE, by their registers, the first-named high (R31). -/
def valueHl (s : State) : Word := s.regs.h ++ s.regs.l
def valueBc (s : State) : Word := s.regs.b ++ s.regs.c
def valueDe (s : State) : Word := s.regs.d ++ s.regs.e

/-- `cond(cc)` on a flags byte (R155). -/
def CondHolds (f : Byte) : Cond → Prop
  | .nz => f.getLsbD 7 = false
  | .z => f.getLsbD 7 = true
  | .nc => f.getLsbD 4 = false
  | .c => f.getLsbD 4 = true

/-- A load of one byte from address `a` into register `dst`. -/
def LoadsByte (i : Instr) (s : State) (dst : Reg8) (a : Word) (len cyc : Nat) : Prop :=
  ∃ t, exec i s = .next t ∧ t.getReg dst = memRead s a ∧ RegsKept [dst] s t ∧ t.regs.sp = s.regs.sp ∧ FlagsKept s t ∧
    Retires s t len cyc ∧ StoresNothing s t

/-- A store of the byte `v` to address `a`. -/
def StoreCompletes (i : Instr) (s : State) (a : Word) (v : Byte) (len cyc : Nat) : Prop :=
  ∃ t, exec i s = .next t ∧ RegsKept [] s t ∧ t.regs.sp = s.regs.sp ∧ FlagsKept s t ∧ Retires s t len cyc ∧ StoresByte s t a v

/-- An instruction that writes `v` to A with the flags given, and nothing else. -/
def WritesA (i : Instr) (s : State) (v : Byte) (z n h c : Bool) (len cyc : Nat) : Prop :=
  ∃ t, exec i s = .next t ∧ t.regs.a = v ∧ FlagsAre t z n h c ∧ RegsKept [.a] s t ∧ t.regs.sp = s.regs.sp ∧
    Retires s t len cyc ∧ StoresNothing s t

/-- The length and the cost of the three operand forms of R260. -/
def operandLength : Src8 → Nat
  | .reg _ => 1
  | .atHl => 1
  | .imm _ => 2
def operandCycles : Src8 → Nat
  | .reg _ => 4
  | .atHl => 8
  | .imm _ => 8

/-- `src8` (R260). -/
def operandValue (s : State) : Src8 → Byte
  | .reg r => s.getReg r
  | .atHl => memRead s (valueHl s)
  | .imm n => n

/-- The operand of a CB instruction (R339). -/
def locValue (s : State) : Loc8 → Byte
  | .reg r => s.getReg r
  | .atHl => memRead s (valueHl s)

/-- `set(v)` of R339 is the only write beside flags and PC: a register, or one bus write at HL. -/
def WritesLoc (s t : State) (v : Byte) : Loc8 → Prop
  | .reg r => t.getReg r = v ∧ RegsKept [r] s t ∧ StoresNothing s t
  | .atHl => RegsKept [] s t ∧ StoresByte s t (valueHl s) v

/-- The cost of a CB instruction: `n` for a register, `m` for the byte at HL. -/
def locCycles (n m : Nat) : Loc8 → Nat
  | .reg _ => n
  | .atHl => m

/-- A rotate or shift of the CB table with result `r` and carry `c` (R340-R347). -/
def Rotates (i : Instr) (s : State) (l : Loc8) (r : Byte) (c : Bool) : Prop :=
  ∃ t, exec i s = .next t ∧ WritesLoc s t r l ∧ FlagsAre t (r == 0) false false c ∧ t.regs.sp = s.regs.sp ∧
    Retires s t 2 (locCycles 8 16 l)

/-! ## The words of the step -/

/-- Where the step has come to after the host's buttons and step 0 (R142, R450). -/
def awake (s : State) : State := wakeFromStop (beginStep s)

/-- The opcodes without a descriptor (R162). -/
def holes : List Byte := [0xD3, 0xDB, 0xDD, 0xE3, 0xE4, 0xEB, 0xEC, 0xED, 0xF4, 0xFC, 0xFD]

/-- The step reaches the fetch: the machine runs, and it is not stopped without a joypad request (R450, step 0). -/
def Fetches (s : State) : Prop := s.fault = none ∧ staysStopped (beginStep s) = false

/-- The fetched opcode has a descriptor. -/
def FetchesLegal (s : State) : Prop := Fetches s ∧ memRead (awake s) (awake s).regs.pc ∉ holes

/-- The three bytes at PC, for a CPU without the halt bug. -/
def bytesAtPc (s : State) : List Byte :=
  [memRead s s.regs.pc, memRead s (s.regs.pc + 1), memRead s (s.regs.pc + 2)]

end Sys2Proof.Machine

open Sys2Proof Sys2Proof.Machine

/-! ## Encoding -/

/-- The selector codes of R154. -/
def Sys2Proof.Machine.regCode : Reg8 → BitVec 3
  | .b => 0 | .c => 1 | .d => 2 | .e => 3 | .h => 4 | .l => 5 | .a => 7
def Sys2Proof.Machine.locCode : Loc8 → BitVec 3
  | .reg r => regCode r
  | .atHl => 6
def Sys2Proof.Machine.pairCode : Pair16 → BitVec 2
  | .bc => 0 | .de => 1 | .hl => 2 | .sp => 3
def Sys2Proof.Machine.stackCode : StackPair → BitVec 2
  | .bc => 0 | .de => 1 | .hl => 2 | .af => 3
def Sys2Proof.Machine.condCode : Cond → BitVec 2
  | .nz => 0 | .z => 1 | .nc => 2 | .c => 3
def Sys2Proof.Machine.aluCode : AluOp → BitVec 3
  | .add => 0 | .adc => 1 | .sub => 2 | .sbc => 3 | .and => 4 | .xor => 5 | .or => 6 | .cp => 7
def Sys2Proof.Machine.rotCode : RotOp → BitVec 3
  | .rlc => 0 | .rrc => 1 | .rl => 2 | .rr => 3 | .sla => 4 | .sra => 5 | .swap => 6 | .srl => 7

/-- An opcode byte by its fields x, y and z (R153). -/
def Sys2Proof.Machine.fields (x : BitVec 2) (y z : BitVec 3) : Byte := x ++ y ++ z

/-- A 16-bit operand: the low byte first (R156). -/
def Sys2Proof.Machine.operand16 (w : Word) : List Byte := [w.extractLsb' 0 8, w.extractLsb' 8 8]

/-- The bytes of an instruction, from the `Encoding` line of its rule. -/
def Sys2Proof.Machine.encodingOf : Shape → List Byte
  | .ldRegReg dst src => [fields 1 (regCode dst) (regCode src)]
  | .ldRegHl dst => [fields 1 (regCode dst) 6]
  | .ldHlReg src => [fields 1 6 (regCode src)]
  | .ldRegImm dst n => [fields 0 (regCode dst) 6, n]
  | .ldHlImm n => [0x36, n]
  | .ldABc => [0x0A]
  | .ldADe => [0x1A]
  | .ldBcA => [0x02]
  | .ldDeA => [0x12]
  | .ldAHlInc => [0x2A]
  | .ldAHlDec => [0x3A]
  | .ldHlIncA => [0x22]
  | .ldHlDecA => [0x32]
  | .ldAAbs aa => 0xFA :: operand16 aa
  | .ldAbsA aa => 0xEA :: operand16 aa
  | .ldhA a8 => [0xF0, a8]
  | .ldhStore a8 => [0xE0, a8]
  | .ldAHighC => [0xF2]
  | .ldHighCA => [0xE2]
  | .ldPairImm p nn => ((0 : BitVec 2) ++ pairCode p ++ (0b0001 : BitVec 4)) :: operand16 nn
  | .ldSpHl => [0xF9]
  | .ldAbsSp aa => 0x08 :: operand16 aa
  | .push q => [(0b11 : BitVec 2) ++ stackCode q ++ (0b0101 : BitVec 4)]
  | .pop q => [(0b11 : BitVec 2) ++ stackCode q ++ (0b0001 : BitVec 4)]
  | .alu op (.reg r) => [fields 2 (aluCode op) (regCode r)]
  | .alu op .atHl => [fields 2 (aluCode op) 6]
  | .alu op (.imm n) => [fields 3 (aluCode op) 6, n]
  | .incReg r => [fields 0 (regCode r) 4]
  | .incHl => [0x34]
  | .decReg r => [fields 0 (regCode r) 5]
  | .decHl => [0x35]
  | .daa => [0x27]
  | .cpl => [0x2F]
  | .scf => [0x37]
  | .ccf => [0x3F]
  | .rlca => [0x07]
  | .rrca => [0x0F]
  | .rla => [0x17]
  | .rra => [0x1F]
  | .addHl p => [(0 : BitVec 2) ++ pairCode p ++ (0b1001 : BitVec 4)]
  | .incPair p => [(0 : BitVec 2) ++ pairCode p ++ (0b0011 : BitVec 4)]
  | .decPair p => [(0 : BitVec 2) ++ pairCode p ++ (0b1011 : BitVec 4)]
  | .addSp e => [0xE8, e]
  | .ldHlSp e => [0xF8, e]
  | .rot op l => [0xCB, fields 0 (rotCode op) (locCode l)]
  | .bit b l => [0xCB, fields 1 b (locCode l)]
  | .res b l => [0xCB, fields 2 b (locCode l)]
  | .set b l => [0xCB, fields 3 b (locCode l)]
  | .jp aa => 0xC3 :: operand16 aa
  | .jpCond cc aa => ((0b110 : BitVec 3) ++ condCode cc ++ (0b010 : BitVec 3)) :: operand16 aa
  | .jpHl => [0xE9]
  | .jr e => [0x18, e]
  | .jrCond cc e => [(0b001 : BitVec 3) ++ condCode cc ++ (0b000 : BitVec 3), e]
  | .call aa => 0xCD :: operand16 aa
  | .callCond cc aa => ((0b110 : BitVec 3) ++ condCode cc ++ (0b100 : BitVec 3)) :: operand16 aa
  | .ret => [0xC9]
  | .retCond cc => [(0b110 : BitVec 3) ++ condCode cc ++ (0b000 : BitVec 3)]
  | .rst y => [fields 3 y 7]
  | .reti => [0xD9]
  | .nop => [0x00]
  | .halt => [0x76]
  | .stop x => [0x10, x]
  | .di => [0xF3]
  | .ei => [0xFB]

/-- For every instruction, with every operand at every value: its encoding is the bytes its rule gives (R152-R156 and the `Encoding`
line of each rule), and decoding them gives the instruction back and leaves what follows. -/
def Obligations.DecodeOfEncode : Prop :=
  ∀ (i : Instr) (rest : List Byte), i.encode = encodingOf i.shape ∧ decode (i.encode ++ rest) = .ok i rest

/-- The other direction: bytes that decode to an instruction are its encoding, so no two byte sequences decode to the same term of
`Instr`. For STOP this is the model's choice (log 15): the constructor keeps the second byte, which no rule interprets (R422), so that
`10 00` and `10 01` are two terms with one meaning. -/
def Obligations.EncodeOfDecode : Prop :=
  ∀ (bytes : List Byte) (i : Instr) (rest : List Byte), decode bytes = .ok i rest → bytes = i.encode ++ rest

/-- R162: exactly the eleven opcodes have no descriptor; any three bytes that begin with another one decode to an instruction, which
takes as many of them as its descriptor says. -/
def Obligations.ElevenOpcodesHaveNoDescriptor : Prop :=
  ∀ op b1 b2 : Byte,
    (op ∈ holes → decode [op, b1, b2] = .noDescriptor op) ∧
    (op ∉ holes → ∃ i rest, decode [op, b1, b2] = .ok i rest ∧ rest.length + i.descriptor.length = 3)

/-- Words written out from R160 and R161, one or two of each family. -/
def Obligations.SampleWordsDecode : Prop :=
  decode [0x00, 0x00, 0x00] = .ok .nop [0x00, 0x00] ∧
  decode [0x3E, 0x42, 0x00] = .ok (.ldAD8 0x42) [0x00] ∧
  decode [0x21, 0x34, 0x12] = .ok (.ldHlD16 0x1234) [] ∧
  decode [0x08, 0x00, 0xC1] = .ok (.ldAtA16Sp 0xC100) [] ∧
  decode [0x86, 0x00, 0x00] = .ok .addAAtHl [0x00, 0x00] ∧
  decode [0x39, 0x00, 0x00] = .ok .addHlSp [0x00, 0x00] ∧
  decode [0xCB, 0xCB, 0x00] = .ok .set1E [0x00] ∧
  decode [0xCB, 0x7E, 0x00] = .ok .bit7AtHl [0x00] ∧
  decode [0x20, 0xFC, 0x00] = .ok (.jrNzE8 0xFC) [0x00] ∧
  decode [0xCD, 0x50, 0x01] = .ok (.callA16 0x0150) [] ∧
  decode [0xFB, 0x00, 0x00] = .ok .ei [0x00, 0x00]

/-- R171: every instruction completes from every state. A conditional transfer costs its alternate count when its condition holds,
and otherwise advances PC by the length for the base count; an unconditional transfer costs the base count; every other instruction
advances PC by its length for the base count. -/
def Obligations.EveryInstructionRetiresByItsDescriptor : Prop :=
  ∀ (i : Instr) (s : State), ∃ t, exec i s = .next t ∧
    match i.shape with
    | .jpCond cc _ | .jrCond cc _ | .callCond cc _ | .retCond cc =>
      (CondHolds s.regs.f cc → t.cycles = i.descriptor.alternate) ∧
      (¬ CondHolds s.regs.f cc → t.regs.pc = nextPc s i.descriptor.length ∧ t.cycles = i.descriptor.base)
    | .jp _ | .jpHl | .jr _ | .call _ | .ret | .rst _ | .reti => t.cycles = i.descriptor.base
    | _ => t.regs.pc = nextPc s i.descriptor.length ∧ t.cycles = i.descriptor.base

/-! ## Loads, stores and stack transfers -/

/-- R200 (`LD r,r'`, opcodes 0x40-0x7F without a (HL) operand), the copies of a register to itself among them. -/
def Obligations.LoadRegisterFromRegister : Prop :=
  ∀ (i : Instr) (s : State) (dst src : Reg8), i.shape = .ldRegReg dst src →
    ∃ t, exec i s = .next t ∧ t.getReg dst = s.getReg src ∧ RegsKept [dst] s t ∧ t.regs.sp = s.regs.sp ∧ FlagsKept s t ∧
      Retires s t 1 4 ∧ StoresNothing s t

/-- R201 (0x46, 0x4E, ..., 0x7E), R205 (0x0A), R206 (0x1A), R213 (0xFA), R215 (0xF0), R217 (0xF2): loads of one byte. -/
def Obligations.LoadByteFromMemory : Prop :=
  ∀ (i : Instr) (s : State),
    (∀ dst, i.shape = .ldRegHl dst → LoadsByte i s dst (valueHl s) 1 8) ∧
    (i.shape = .ldABc → LoadsByte i s .a (valueBc s) 1 8) ∧
    (i.shape = .ldADe → LoadsByte i s .a (valueDe s) 1 8) ∧
    (∀ aa, i.shape = .ldAAbs aa → LoadsByte i s .a aa 3 16) ∧
    (∀ a8, i.shape = .ldhA a8 → LoadsByte i s .a (0xFF00 + Byte.zext a8) 2 12) ∧
    (i.shape = .ldAHighC → LoadsByte i s .a (0xFF00 + Byte.zext s.regs.c) 1 8)

/-- R203 (0x06, 0x0E, ..., 0x3E), R220 (0x01, 0x11, 0x21, 0x31) and R221 (0xF9): immediates, and SP from HL. A pair is its two
registers, the first-named the high byte. -/
def Obligations.LoadImmediateOrSp : Prop :=
  ∀ (i : Instr) (s : State),
    (∀ dst n, i.shape = .ldRegImm dst n →
      ∃ t, exec i s = .next t ∧ t.getReg dst = n ∧ RegsKept [dst] s t ∧ t.regs.sp = s.regs.sp ∧ FlagsKept s t ∧
        Retires s t 2 8 ∧ StoresNothing s t) ∧
    (∀ nn, i.shape = .ldPairImm .bc nn →
      ∃ t, exec i s = .next t ∧ valueBc t = nn ∧ RegsKept [.b, .c] s t ∧ t.regs.sp = s.regs.sp ∧ FlagsKept s t ∧
        Retires s t 3 12 ∧ StoresNothing s t) ∧
    (∀ nn, i.shape = .ldPairImm .de nn →
      ∃ t, exec i s = .next t ∧ valueDe t = nn ∧ RegsKept [.d, .e] s t ∧ t.regs.sp = s.regs.sp ∧ FlagsKept s t ∧
        Retires s t 3 12 ∧ StoresNothing s t) ∧
    (∀ nn, i.shape = .ldPairImm .hl nn →
      ∃ t, exec i s = .next t ∧ valueHl t = nn ∧ RegsKept [.h, .l] s t ∧ t.regs.sp = s.regs.sp ∧ FlagsKept s t ∧
        Retires s t 3 12 ∧ StoresNothing s t) ∧
    (∀ nn, i.shape = .ldPairImm .sp nn →
      ∃ t, exec i s = .next t ∧ t.regs.sp = nn ∧ RegsKept [] s t ∧ FlagsKept s t ∧ Retires s t 3 12 ∧ StoresNothing s t) ∧
    (i.shape = .ldSpHl →
      ∃ t, exec i s = .next t ∧ t.regs.sp = valueHl s ∧ RegsKept [] s t ∧ FlagsKept s t ∧ Retires s t 1 8 ∧ StoresNothing s t)

/-- R202 (0x70-0x75, 0x77), R204 (0x36), R207 (0x02), R208 (0x12), R214 (0xEA), R216 (0xE0), R218 (0xE2): stores of one byte. -/
def Obligations.StoreByteToMemory : Prop :=
  ∀ (i : Instr) (s : State),
    (∀ src, i.shape = .ldHlReg src → StoreCompletes i s (valueHl s) (s.getReg src) 1 8) ∧
    (∀ n, i.shape = .ldHlImm n → StoreCompletes i s (valueHl s) n 2 12) ∧
    (i.shape = .ldBcA → StoreCompletes i s (valueBc s) s.regs.a 1 8) ∧
    (i.shape = .ldDeA → StoreCompletes i s (valueDe s) s.regs.a 1 8) ∧
    (∀ aa, i.shape = .ldAbsA aa → StoreCompletes i s aa s.regs.a 3 16) ∧
    (∀ a8, i.shape = .ldhStore a8 → StoreCompletes i s (0xFF00 + Byte.zext a8) s.regs.a 2 12) ∧
    (i.shape = .ldHighCA → StoreCompletes i s (0xFF00 + Byte.zext s.regs.c) s.regs.a 1 8)

/-- R209 (0x2A), R210 (0x3A), R211 (0x22), R212 (0x32): the access is at the old HL, then HL moves by one and wraps; no flag changes. -/
def Obligations.LoadStoreAndMoveHl : Prop :=
  ∀ (i : Instr) (s : State) (move : Word),
    (i.shape = .ldAHlInc ∧ move = 1 ∨ i.shape = .ldAHlDec ∧ move = -1 →
      ∃ t, exec i s = .next t ∧ t.regs.a = memRead s (valueHl s) ∧ valueHl t = valueHl s + move ∧
        RegsKept [.a, .h, .l] s t ∧ t.regs.sp = s.regs.sp ∧ FlagsKept s t ∧ Retires s t 1 8 ∧ StoresNothing s t) ∧
    (i.shape = .ldHlIncA ∧ move = 1 ∨ i.shape = .ldHlDecA ∧ move = -1 →
      ∃ t, exec i s = .next t ∧ valueHl t = valueHl s + move ∧ RegsKept [.h, .l] s t ∧ t.regs.sp = s.regs.sp ∧
        FlagsKept s t ∧ Retires s t 1 8 ∧ StoresByte s t (valueHl s) s.regs.a)

/-- R222 (0x08), R240 and R242 (0xC5, 0xD5, 0xE5, 0xF5): the instructions that store two bytes. LD (a16),SP stores the low byte first;
a push drops SP by 2 and stores the high byte first. PUSH AF pushes F with bits 3..0 clear. -/
def Obligations.StoreStackPointerAndPush : Prop :=
  ∀ (i : Instr) (s : State),
    (∀ aa, i.shape = .ldAbsSp aa →
      ∃ t, exec i s = .next t ∧ RegsKept [] s t ∧ t.regs.sp = s.regs.sp ∧ FlagsKept s t ∧ Retires s t 3 20 ∧
        StoresTwo s t aa (s.regs.sp.extractLsb' 0 8) (aa + 1) (s.regs.sp.extractLsb' 8 8)) ∧
    (∀ q, i.shape = .push q →
      ∃ t, exec i s = .next t ∧ RegsKept [] s t ∧ FlagsKept s t ∧ Retires s t 1 16 ∧
        Pushes s t (match q with
          | .bc => valueBc s
          | .de => valueDe s
          | .hl => valueHl s
          | .af => s.regs.a ++ (s.regs.f &&& 0xF0)))

/-- R241 and R243 (0xC1, 0xD1, 0xE1, 0xF1): the pair takes the popped value and SP rises by 2. POP AF loads the flags from bits 7..4
of the low byte. -/
def Obligations.PopLoadsPair : Prop :=
  ∀ (i : Instr) (s : State) (q : StackPair), i.shape = .pop q →
    ∃ t, exec i s = .next t ∧ t.regs.sp = s.regs.sp + 2 ∧ Retires s t 1 12 ∧ StoresNothing s t ∧
      (match q with
        | .bc => valueBc t = popped s ∧ RegsKept [.b, .c] s t ∧ FlagsKept s t
        | .de => valueDe t = popped s ∧ RegsKept [.d, .e] s t ∧ FlagsKept s t
        | .hl => valueHl t = popped s ∧ RegsKept [.h, .l] s t ∧ FlagsKept s t
        | .af => t.regs.a = (popped s).extractLsb' 8 8 ∧ t.regs.f = (popped s).extractLsb' 0 8 &&& 0xF0 ∧ RegsKept [.a] s t)

/-! ## 8-bit arithmetic and logic -/

/-- R261 (0x80-0x87, 0xC6) and R262 (0x88-0x8F, 0xCE): ADD and ADC, every operand form of R260. -/
def Obligations.AddAndAddWithCarry : Prop :=
  ∀ (i : Instr) (s : State) (src : Src8) (c : Nat),
    (i.shape = .alu .add src ∧ c = 0 ∨ i.shape = .alu .adc src ∧ c = (if s.regs.f.getLsbD 4 = true then 1 else 0)) →
    let a := s.regs.a.toNat
    let v := (operandValue s src).toNat
    WritesA i s (BitVec.ofNat 8 (a + v + c)) ((a + v + c) % 256 == 0) false (decide (0x0F < a % 16 + v % 16 + c))
      (decide (0xFF < a + v + c)) (operandLength src) (operandCycles src)

/-- R263 (0x90-0x97, 0xD6), R264 (0x98-0x9F, 0xDE), R268 (0xB8-0xBF, 0xFE): SUB, SBC and CP, every operand form. The difference is an
integer; CP has the flags of SUB and keeps A. -/
def Obligations.SubtractAndCompare : Prop :=
  ∀ (i : Instr) (s : State) (src : Src8),
    let a := s.regs.a.toNat
    let v := (operandValue s src).toNat
    (∀ c : Nat,
      (i.shape = .alu .sub src ∧ c = 0 ∨ i.shape = .alu .sbc src ∧ c = (if s.regs.f.getLsbD 4 = true then 1 else 0)) →
      let r : Int := (a : Int) - v - c
      WritesA i s (BitVec.ofInt 8 r) (r % 256 == 0) true (decide (a % 16 < v % 16 + c)) (decide (a < v + c))
        (operandLength src) (operandCycles src)) ∧
    (i.shape = .alu .cp src →
      WritesA i s s.regs.a (a == v) true (decide (a % 16 < v % 16)) (decide (a < v)) (operandLength src) (operandCycles src))

/-- R265 (0xA0-0xA7, 0xE6), R266 (0xA8-0xAF, 0xEE), R267 (0xB0-0xB7, 0xF6): AND, XOR and OR, every operand form. -/
def Obligations.LogicalOperations : Prop :=
  ∀ (i : Instr) (s : State) (src : Src8),
    let a := s.regs.a
    let v := operandValue s src
    (i.shape = .alu .and src →
      WritesA i s (a &&& v) (a &&& v == 0) false true false (operandLength src) (operandCycles src)) ∧
    (i.shape = .alu .xor src →
      WritesA i s (a ^^^ v) (a ^^^ v == 0) false false false (operandLength src) (operandCycles src)) ∧
    (i.shape = .alu .or src →
      WritesA i s (a ||| v) (a ||| v == 0) false false false (operandLength src) (operandCycles src))

/-- R270 (0x04, 0x0C, ..., 0x3C) and R272 (0x05, 0x0D, ..., 0x3D): INC and DEC of a register keep C. -/
def Obligations.IncrementDecrementRegister : Prop :=
  ∀ (i : Instr) (s : State) (r : Reg8),
    let old := s.getReg r
    (i.shape = .incReg r →
      ∃ t, exec i s = .next t ∧ t.getReg r = old + 1 ∧
        FlagsAre t (old + 1 == 0) false (old.toNat % 16 == 15) (s.regs.f.getLsbD 4) ∧
        RegsKept [r] s t ∧ t.regs.sp = s.regs.sp ∧ Retires s t 1 4 ∧ StoresNothing s t) ∧
    (i.shape = .decReg r →
      ∃ t, exec i s = .next t ∧ t.getReg r = old - 1 ∧
        FlagsAre t (old - 1 == 0) true (old.toNat % 16 == 0) (s.regs.f.getLsbD 4) ∧
        RegsKept [r] s t ∧ t.regs.sp = s.regs.sp ∧ Retires s t 1 4 ∧ StoresNothing s t)

/-- R271 (0x34) and R273 (0x35): INC and DEC of the byte at HL, a read then a write, keep C. -/
def Obligations.IncrementDecrementMemory : Prop :=
  ∀ (i : Instr) (s : State),
    let old := memRead s (valueHl s)
    (i.shape = .incHl →
      ∃ t, exec i s = .next t ∧ StoresByte s t (valueHl s) (old + 1) ∧
        FlagsAre t (old + 1 == 0) false (old.toNat % 16 == 15) (s.regs.f.getLsbD 4) ∧
        RegsKept [] s t ∧ t.regs.sp = s.regs.sp ∧ Retires s t 1 12) ∧
    (i.shape = .decHl →
      ∃ t, exec i s = .next t ∧ StoresByte s t (valueHl s) (old - 1) ∧
        FlagsAre t (old - 1 == 0) true (old.toNat % 16 == 0) (s.regs.f.getLsbD 4) ∧
        RegsKept [] s t ∧ t.regs.sp = s.regs.sp ∧ Retires s t 1 12)

/-- R280 (0x27): DAA. Both tests after an addition read A before the adjustment; N is kept. -/
def Obligations.DecimalAdjust : Prop :=
  ∀ (i : Instr) (s : State), i.shape = .daa →
    let a := s.regs.a.toNat
    let n := s.regs.f.getLsbD 6
    let h := s.regs.f.getLsbD 5
    let c := s.regs.f.getLsbD 4
    let low : Bool := h || !n && decide (0x09 < a % 16)
    let high : Bool := c || !n && decide (0x99 < a)
    let adj : Nat := (if low then 0x06 else 0) + (if high then 0x60 else 0)
    let r : Byte := if n then s.regs.a - BitVec.ofNat 8 adj else s.regs.a + BitVec.ofNat 8 adj
    WritesA i s r (r == 0) n false high 1 4

/-- R281 (0x2F), R282 (0x37), R283 (0x3F): CPL, SCF and CCF keep Z; CPL keeps C. -/
def Obligations.ComplementAndCarryOperations : Prop :=
  ∀ (i : Instr) (s : State),
    let z := s.regs.f.getLsbD 7
    let c := s.regs.f.getLsbD 4
    (i.shape = .cpl → WritesA i s (s.regs.a ^^^ 0xFF) z true true c 1 4) ∧
    (i.shape = .scf → WritesA i s s.regs.a z false false true 1 4) ∧
    (i.shape = .ccf → WritesA i s s.regs.a z false false (!c) 1 4)

/-- R290 (0x07), R291 (0x0F), R292 (0x17), R293 (0x1F): the accumulator rotates always clear Z. Bit by bit: the plain forms rotate A,
the forms through the carry rotate the nine bits of A and C. -/
def Obligations.AccumulatorRotates : Prop :=
  ∀ (i : Instr) (s : State),
    let a := s.regs.a
    let c := if s.regs.f.getLsbD 4 = true then 1 else 0
    (i.shape = .rlca → WritesA i s (a.rotateLeft 1) false false false (a.getLsbD 7) 1 4) ∧
    (i.shape = .rrca → WritesA i s (a.rotateRight 1) false false false (a.getLsbD 0) 1 4) ∧
    (i.shape = .rla → WritesA i s (BitVec.ofNat 8 (2 * a.toNat + c)) false false false (a.getLsbD 7) 1 4) ∧
    (i.shape = .rra → WritesA i s (BitVec.ofNat 8 (a.toNat / 2 + 128 * c)) false false false (a.getLsbD 0) 1 4)

/-! ## 16-bit arithmetic -/

/-- The value of a pair (R31). -/
def Sys2Proof.Machine.pairValue (s : State) : Pair16 → Word
  | .bc => valueBc s
  | .de => valueDe s
  | .hl => valueHl s
  | .sp => s.regs.sp

/-- The 8-bit registers of a pair. -/
def Sys2Proof.Machine.pairRegs : Pair16 → List Reg8
  | .bc => [.b, .c]
  | .de => [.d, .e]
  | .hl => [.h, .l]
  | .sp => []

/-- R320 (0x09, 0x19, 0x29, 0x39): ADD HL,rr keeps Z; H is the carry out of bit 11 and C the carry out of bit 15. -/
def Obligations.AddPairToHl : Prop :=
  ∀ (i : Instr) (s : State) (p : Pair16), i.shape = .addHl p →
    let x := (valueHl s).toNat
    let v := (pairValue s p).toNat
    ∃ t, exec i s = .next t ∧ valueHl t = BitVec.ofNat 16 (x + v) ∧
      FlagsAre t (s.regs.f.getLsbD 7) false (decide (0x0FFF < x % 0x1000 + v % 0x1000)) (decide (0xFFFF < x + v)) ∧
      RegsKept [.h, .l] s t ∧ t.regs.sp = s.regs.sp ∧ Retires s t 1 8 ∧ StoresNothing s t

/-- R321 (0x03, 0x13, 0x23, 0x33) and R322 (0x0B, 0x1B, 0x2B, 0x3B): INC and DEC of a pair wrap and set no flag. -/
def Obligations.IncrementDecrementPair : Prop :=
  ∀ (i : Instr) (s : State) (p : Pair16) (step : Word),
    (i.shape = .incPair p ∧ step = 1 ∨ i.shape = .decPair p ∧ step = -1) →
    ∃ t, exec i s = .next t ∧ pairValue t p = pairValue s p + step ∧ RegsKept (pairRegs p) s t ∧
      (p ≠ .sp → t.regs.sp = s.regs.sp) ∧ FlagsKept s t ∧ Retires s t 1 8 ∧ StoresNothing s t

/-- R325 (0xE8) and R326 (0xF8): the sum is with the signed offset, the flags are those of the unsigned addition of the low bytes. -/
def Obligations.AddSignedOffsetToSp : Prop :=
  ∀ (i : Instr) (s : State) (e : Byte),
    let sum : Word := BitVec.ofInt 16 ((s.regs.sp.toNat : Int) + e.toInt)
    let h : Bool := decide (0x0F < s.regs.sp.toNat % 16 + e.toNat % 16)
    let c : Bool := decide (0xFF < s.regs.sp.toNat % 256 + e.toNat)
    (i.shape = .addSp e →
      ∃ t, exec i s = .next t ∧ t.regs.sp = sum ∧ FlagsAre t false false h c ∧ RegsKept [] s t ∧ Retires s t 2 16 ∧
        StoresNothing s t) ∧
    (i.shape = .ldHlSp e →
      ∃ t, exec i s = .next t ∧ valueHl t = sum ∧ FlagsAre t false false h c ∧ RegsKept [.h, .l] s t ∧
        t.regs.sp = s.regs.sp ∧ Retires s t 2 12 ∧ StoresNothing s t)

/-! ## The CB table -/

/-- R340 (CB 00-07), R341 (CB 08-0F), R342 (CB 10-17), R343 (CB 18-1F): the rotates, of a register and of the byte at HL. -/
def Obligations.CbRotates : Prop :=
  ∀ (i : Instr) (s : State) (l : Loc8),
    let v := locValue s l
    let c := if s.regs.f.getLsbD 4 = true then 1 else 0
    (i.shape = .rot .rlc l → Rotates i s l (v.rotateLeft 1) (v.getLsbD 7)) ∧
    (i.shape = .rot .rrc l → Rotates i s l (v.rotateRight 1) (v.getLsbD 0)) ∧
    (i.shape = .rot .rl l → Rotates i s l (BitVec.ofNat 8 (2 * v.toNat + c)) (v.getLsbD 7)) ∧
    (i.shape = .rot .rr l → Rotates i s l (BitVec.ofNat 8 (v.toNat / 2 + 128 * c)) (v.getLsbD 0))

/-- R344 (CB 20-27), R345 (CB 28-2F), R346 (CB 30-37), R347 (CB 38-3F): the shifts and SWAP. SRA halves the signed value. -/
def Obligations.CbShiftsAndSwap : Prop :=
  ∀ (i : Instr) (s : State) (l : Loc8),
    let v := locValue s l
    (i.shape = .rot .sla l → Rotates i s l (BitVec.ofNat 8 (2 * v.toNat)) (v.getLsbD 7)) ∧
    (i.shape = .rot .sra l → Rotates i s l (BitVec.ofInt 8 (v.toInt / 2)) (v.getLsbD 0)) ∧
    (i.shape = .rot .swap l → Rotates i s l (v.rotateLeft 4) false) ∧
    (i.shape = .rot .srl l → Rotates i s l (BitVec.ofNat 8 (v.toNat / 2)) (v.getLsbD 0))

/-- R350 (CB 40-7F): BIT writes no operand and keeps C. -/
def Obligations.BitTest : Prop :=
  ∀ (i : Instr) (s : State) (b : BitVec 3) (l : Loc8), i.shape = .bit b l →
    ∃ t, exec i s = .next t ∧ FlagsAre t (!(locValue s l).getLsbD b.toNat) false true (s.regs.f.getLsbD 4) ∧
      RegsKept [] s t ∧ t.regs.sp = s.regs.sp ∧ Retires s t 2 (locCycles 8 12 l) ∧ StoresNothing s t

/-- R351 (CB 80-BF) and R352 (CB C0-FF): RES and SET write the operand with one bit changed, and no flag. -/
def Obligations.BitResetAndSet : Prop :=
  ∀ (i : Instr) (s : State) (b : BitVec 3) (l : Loc8) (on : Bool),
    (i.shape = .res b l ∧ on = false ∨ i.shape = .set b l ∧ on = true) →
    ∃ (t : State) (r : Byte), exec i s = .next t ∧ WritesLoc s t r l ∧
      (∀ k, r.getLsbD k = if k = b.toNat then on else (locValue s l).getLsbD k) ∧
      FlagsKept s t ∧ t.regs.sp = s.regs.sp ∧ Retires s t 2 (locCycles 8 16 l)

/-! ## Control transfers -/

/-- A transfer that touches nothing but PC. -/
def Sys2Proof.Machine.JumpsTo (i : Instr) (s : State) (target : Word) (cyc : Nat) : Prop :=
  ∃ t, exec i s = .next t ∧ Transfers t target cyc ∧ RegsKept [] s t ∧ t.regs.sp = s.regs.sp ∧ FlagsKept s t ∧ StoresNothing s t

/-- A transfer not taken: PC moves past the instruction, and nothing else changes. -/
def Sys2Proof.Machine.FallsThrough (i : Instr) (s : State) (len cyc : Nat) : Prop :=
  ∃ t, exec i s = .next t ∧ Retires s t len cyc ∧ RegsKept [] s t ∧ t.regs.sp = s.regs.sp ∧ FlagsKept s t ∧ StoresNothing s t

/-- A call: the return address is pushed and PC set. -/
def Sys2Proof.Machine.CallsTo (i : Instr) (s : State) (target : Word) (len cyc : Nat) : Prop :=
  ∃ t, exec i s = .next t ∧ Transfers t target cyc ∧ Pushes s t (nextPc s len) ∧ RegsKept [] s t ∧ FlagsKept s t

/-- A return: PC is popped. -/
def Sys2Proof.Machine.ReturnsWith (i : Instr) (s : State) (cyc : Nat) : Prop :=
  ∃ t, exec i s = .next t ∧ Transfers t (popped s) cyc ∧ t.regs.sp = s.regs.sp + 2 ∧ RegsKept [] s t ∧ FlagsKept s t ∧
    StoresNothing s t

/-- R381 (0xC3), R382 (0xC2, 0xCA, 0xD2, 0xDA), R383 (0xE9): absolute jumps. -/
def Obligations.AbsoluteJumps : Prop :=
  ∀ (i : Instr) (s : State),
    (∀ aa, i.shape = .jp aa → JumpsTo i s aa 16) ∧
    (i.shape = .jpHl → JumpsTo i s (valueHl s) 4) ∧
    (∀ cc aa, i.shape = .jpCond cc aa →
      (CondHolds s.regs.f cc → JumpsTo i s aa 16) ∧ (¬ CondHolds s.regs.f cc → FallsThrough i s 3 12))

/-- R390 (0x18) and R391 (0x20, 0x28, 0x30, 0x38): the offset is signed and counts from the next instruction. -/
def Obligations.RelativeJumps : Prop :=
  ∀ (i : Instr) (s : State) (e : Byte),
    let target : Word := BitVec.ofInt 16 (((nextPc s 2).toNat : Int) + e.toInt)
    (i.shape = .jr e → JumpsTo i s target 12) ∧
    (∀ cc, i.shape = .jrCond cc e →
      (CondHolds s.regs.f cc → JumpsTo i s target 12) ∧ (¬ CondHolds s.regs.f cc → FallsThrough i s 2 8))

/-- R392 (0xCD), R393 (0xC4, 0xCC, 0xD4, 0xDC), R396 (0xC7, 0xCF, ..., 0xFF): calls push the address of the next instruction. -/
def Obligations.Calls : Prop :=
  ∀ (i : Instr) (s : State),
    (∀ aa, i.shape = .call aa → CallsTo i s aa 3 24) ∧
    (∀ cc aa, i.shape = .callCond cc aa →
      (CondHolds s.regs.f cc → CallsTo i s aa 3 24) ∧ (¬ CondHolds s.regs.f cc → FallsThrough i s 3 12)) ∧
    (∀ y, i.shape = .rst y → CallsTo i s (BitVec.ofNat 16 (y.toNat * 8)) 1 16)

/-- R394 (0xC9), R395 (0xC0, 0xC8, 0xD0, 0xD8), R397 (0xD9): returns. RETI also sets IME at once; beside PC, SP, IME and `ei_delay` it
changes nothing. -/
def Obligations.Returns : Prop :=
  ∀ (i : Instr) (s : State),
    (i.shape = .ret → ReturnsWith i s 16) ∧
    (∀ cc, i.shape = .retCond cc →
      (CondHolds s.regs.f cc → ReturnsWith i s 20) ∧ (¬ CondHolds s.regs.f cc → FallsThrough i s 1 8)) ∧
    (i.shape = .reti →
      ∃ t, exec i s = .next t ∧ Transfers t (popped s) 16 ∧ t.regs.sp = s.regs.sp + 2 ∧ t.ime = true ∧ t.eiDelay = 0 ∧
        RegsKept [] s t ∧ FlagsKept s t ∧ OnlyCpu { s with ime := true, eiDelay := 0 } t ∧ BytesKept s t)

/-! ## System instructions -/

/-- R420 (0x00), R422 (0x10), R421 (0x76): NOP does nothing; STOP sets `stopped`, whatever its second byte; HALT halts, unless the mode
is `hardware`, IME is 0 and a request is pending: then it sets `halt_bug` instead. -/
def Obligations.NoOperationStopAndHalt : Prop :=
  ∀ (i : Instr) (s : State),
    (i.shape = .nop →
      exec i s = .next { s with regs := { s.regs with pc := nextPc s 1 }, haltBug := false, cycles := 4 }) ∧
    (∀ x, i.shape = .stop x →
      exec i s = .next { s with
        regs := { s.regs with pc := nextPc s 2 }, haltBug := false, cycles := 4, stopped := true }) ∧
    (i.shape = .halt →
      let bug := s.params.haltBugMode = .hardware ∧ s.ime = false ∧ s.regIE &&& s.regIF &&& 0x1F ≠ 0
      (bug →
        exec i s = .next { s with regs := { s.regs with pc := nextPc s 1 }, cycles := 4, haltBug := true }) ∧
      (¬ bug →
        exec i s = .next { s with
          regs := { s.regs with pc := nextPc s 1 }, cycles := 4, haltBug := false, halted := true }))

/-- R430 (0xF3), R431 (0xFB), R490: DI clears IME and cancels an EI under way; EI starts the delay unless one is running. The end of the
EI step counts the delay to 1, and the end of the next instruction's step counts it to 0 and sets IME; only a DI there leaves IME = 0. -/
def Obligations.EnableTakesEffectOneInstructionLater : Prop :=
  (∀ (i : Instr) (s : State),
    (i.shape = .di →
      exec i s = .next { s with
        regs := { s.regs with pc := nextPc s 1 }, haltBug := false, cycles := 4, ime := false, eiDelay := 0 }) ∧
    (i.shape = .ei →
      exec i s = .next { s with
        regs := { s.regs with pc := nextPc s 1 }, haltBug := false, cycles := 4,
        eiDelay := if s.eiDelay = 0 then 2 else s.eiDelay }) ∧
    (i.shape = .ei → s.ime = false → s.eiDelay = 0 →
      ∃ t, exec i s = .next t ∧ (endOfStep t).ime = false ∧ (endOfStep t).eiDelay = 1) ∧
    (s.ime = false → s.eiDelay = 1 →
      ∃ t, exec i s = .next t ∧ (endOfStep t).eiDelay = 0 ∧ ((endOfStep t).ime = false ↔ i.shape = .di))) ∧
  (∀ t : State, t.eiDelay = 0 → endOfStep t = t)

/-- R36, R38: which instructions change the CPU's control state. Only DI and RETI change IME, only DI, EI and RETI change `ei_delay`,
only HALT changes `halted` and sets `halt_bug`, only STOP changes `stopped`, and none changes the parameters or records a fault. -/
def Obligations.OnlyNamedInstructionsChangeControlState : Prop :=
  ∀ (i : Instr) (s : State), ∃ t, exec i s = .next t ∧
    (t.ime ≠ s.ime → i.shape = .di ∨ i.shape = .reti) ∧
    (t.eiDelay ≠ s.eiDelay → i.shape = .di ∨ i.shape = .ei ∨ i.shape = .reti) ∧
    (t.halted ≠ s.halted → i.shape = .halt) ∧
    (t.haltBug = true → i.shape = .halt) ∧
    (t.stopped ≠ s.stopped → ∃ x, i.shape = .stop x) ∧
    t.fault = s.fault ∧ t.params = s.params ∧ t.buttonsIn = s.buttonsIn ∧ t.out = s.out

/-! ## The CPU step and the machine step -/

/-- R450, R140: when the bytes at PC decode to an instruction `i`, and the CPU is awake and takes no interrupt, the step is `exec i`,
then the deferred interrupt enable, then the picture unit, the timer and the sound unit, in that order, each by the cycles `exec`
returned (R10, R730). The first clause says the same of `advanceDevices`, in whose words the other step statements are written. -/
def Obligations.StepRunsTheDecodedInstruction : Prop :=
  (∀ (n : Nat) (s : State), advanceDevices n s = soundAdvance n (timerAdvance n (ppuAdvance n s))) ∧
  (∀ (s : State) (i : Instr) (rest : List Byte), Fetches s →
    decode (bytesAtPc (awake s)) = .ok i rest → (awake s).haltBug = false → (awake s).halted = false →
    ¬ ((awake s).ime = true ∧ (awake s).pending ≠ 0) →
    ∃ t, exec i (awake s) = .next t ∧
      step s = .next (soundAdvance t.cycles (timerAdvance t.cycles (ppuAdvance t.cycles (endOfStep t)))))

/-- R485: under the halt bug the step decodes the opcode again as the byte after it, and an instruction that does not transfer control
advances PC by its length less one, so one of one byte runs twice; a CB prefix runs `SET 1,E`. -/
def Obligations.HaltBugReadsOneByteEarly : Prop :=
  ∀ s : State, Fetches s → (awake s).haltBug = true → (awake s).halted = false →
    ¬ ((awake s).ime = true ∧ (awake s).pending ≠ 0) →
    (∀ i rest,
      decode [memRead (awake s) (awake s).regs.pc, memRead (awake s) (awake s).regs.pc,
        memRead (awake s) ((awake s).regs.pc + 1)] = .ok i rest →
      ∃ t, exec i (awake s) = .next t ∧ step s = .next (advanceDevices t.cycles (endOfStep t)) ∧
        match i.shape with
        | .jp _ | .jpHl | .jpCond _ _ | .jr _ | .jrCond _ _ | .call _ | .callCond _ _ | .ret | .retCond _ | .rst _ | .reti => True
        | _ => t.regs.pc = (awake s).regs.pc + BitVec.ofNat 16 i.descriptor.length - 1) ∧
    (memRead (awake s) (awake s).regs.pc = 0xCB →
      ∃ t, exec .set1E (awake s) = .next t ∧ step s = .next (advanceDevices t.cycles (endOfStep t)) ∧
        t.regs.pc = (awake s).regs.pc + 1)

/-- R455, R440, R451: an opcode without a descriptor records the fault with its address and changes nothing else, even when the CPU is
halted or an interrupt is due; the devices do not advance; the faulted state has no next state. Two points are the model's choice: that
the record is a step of its own (log 8), and that a CPU which a joypad request would wake from stop keeps `stopped` when that step
faults (log 9). -/
def Obligations.IllegalOpcodeFaults : Prop :=
  ∀ s : State, Fetches s → memRead (awake s) (awake s).regs.pc ∈ holes →
    let r := Fault.illegalOpcode (awake s).regs.pc (memRead (awake s) (awake s).regs.pc)
    step s = .next { beginStep s with fault := some r, cycles := 0 } ∧
    step { beginStep s with fault := some r, cycles := 0 } = .fault r

/-- R452: every running state has a next state, and a faulted state has none. -/
def Obligations.RunningStatesStepAndFaultedStatesDoNot : Prop :=
  ∀ s : State, (s.fault = none → ∃ t, step s = .next t) ∧ (∀ r, s.fault = some r → step s = .fault r)

/-- R461, R462, R463: with IME = 1 and a request pending, the step dispatches the lowest pending source: IME and `ei_delay` are
cleared, the address of the instruction not executed is pushed (one less under the halt bug), the source's request bit is cleared after
the push, PC goes to its vector, and 12 cycles pass. No other register changes. -/
def Obligations.InterruptDispatch : Prop :=
  ∀ (s : State) (k : Nat), FetchesLegal s →
    let u := awake s
    let pending := u.regIE &&& u.regIF &&& 0x1F
    u.ime = true → pending.getLsbD k = true → (∀ j, j < k → pending.getLsbD j = false) →
    ∃ t, step s = .next (advanceDevices 12 t) ∧
      t.regs.pc = BitVec.ofNat 16 (0x40 + 8 * k) ∧ t.ime = false ∧ t.eiDelay = 0 ∧ t.haltBug = false ∧ t.halted = false ∧
      t.cycles = 12 ∧ t.regs.sp = u.regs.sp - 2 ∧ RegsKept [] u t ∧ FlagsKept u t ∧
      (let ret := u.regs.pc - (if u.haltBug = true then 1 else 0)
       let pushed := memWrite (u.regs.sp - 2) (ret.extractLsb' 0 8) (memWrite (u.regs.sp - 2 + 1) (ret.extractLsb' 8 8) u)
       t = { pushed with
         regs := t.regs, ime := false, eiDelay := 0, haltBug := false, halted := false, cycles := 12, regIF := t.regIF } ∧
       ∀ j, t.regIF.getLsbD j = (pushed.regIF.getLsbD j && j != k))

/-- R480, R481, R486: a halted CPU with nothing pending spends 4 cycles and changes nothing; with a request pending and IME = 0 it wakes
and executes the instruction at PC in the same step, the request staying in IF. In the mode `source` that instruction runs under the halt
bug; there the second byte of a CB instruction is read before the halt bug is set (log 10). -/
def Obligations.HaltIdlesAndWakes : Prop :=
  ∀ s : State, FetchesLegal s → (awake s).halted = true → (awake s).haltBug = false →
    let u := awake s
    let bug := u.params.haltBugMode = .source
    let op := memRead u u.regs.pc
    (u.pending = 0 → step s = .next (advanceDevices 4 { u with cycles := 4 })) ∧
    (u.pending ≠ 0 → u.ime = false →
      ∀ i rest,
        decode (if bug ∧ op ≠ 0xCB then [op, op, memRead u (u.regs.pc + 1)] else bytesAtPc u) = .ok i rest →
        ∃ t, exec i { u with halted := false, haltBug := decide bug } = .next t ∧
          step s = .next (advanceDevices t.cycles (endOfStep t)))

/-- R488: a stopped CPU without a joypad request spends 4 cycles and changes nothing; with one it wakes in that step and goes on from
the fetch, whatever IE and IME hold. -/
def Obligations.StopIdlesAndWakes : Prop :=
  ∀ s : State, s.fault = none → (beginStep s).stopped = true →
    ((beginStep s).regIF.getLsbD 4 = false → step s = .next (advanceDevices 4 { beginStep s with cycles := 4 })) ∧
    ((beginStep s).regIF.getLsbD 4 = true → memRead (awake s) (awake s).regs.pc ∉ holes →
      cpuStep (beginStep s) = cpuStep { beginStep s with stopped := false })

/-! ## Memory -/

/-- R82, R84, R85, R471: VRAM, WRAM and its mirror, OAM, HRAM, IF and IE hold the byte last written, whatever the picture unit's mode,
and the write changes no other byte of the address space but the WRAM mirror of its own. An unmapped address (0xFEA0-0xFEFF,
0xFF01-0xFF03, 0xFF08-0xFF0E, 0xFF27-0xFF2F, 0xFF4C-0xFF7F) reads 0, and a write to it changes nothing. R552: the picture unit's
registers hold the byte last written, and a write changes nothing else; a write of STAT stores bits 6..3 only, which read back beside
the coincidence bit and the mode, bit 7 reading 0; LY reads the live scanline, and a write of it is ignored. -/
def Obligations.StorageHoldsWhatIsWritten : Prop :=
  ∀ (s : State) (a : Word) (v : Byte),
    (((0x8000 ≤ a.toNat ∧ a.toNat < 0xA000) ∨ (0xC000 ≤ a.toNat ∧ a.toNat < 0xFEA0) ∨ a = 0xFF0F ∨ 0xFF80 ≤ a.toNat) →
      memRead (memWrite a v s) a = v ∧
      (∀ b : Word, b ≠ a → ¬ (0xC000 ≤ a.toNat ∧ a.toNat < 0xFE00 ∧ 0xC000 ≤ b.toNat ∧ b.toNat < 0xFE00 ∧
          a.toNat % 0x2000 = b.toNat % 0x2000) → memRead (memWrite a v s) b = memRead s b) ∧
      (∀ b : Word, (0xC000 ≤ a.toNat ∧ a.toNat < 0xFE00 ∧ 0xC000 ≤ b.toNat ∧ b.toNat < 0xFE00 ∧
          a.toNat % 0x2000 = b.toNat % 0x2000) → memRead (memWrite a v s) b = v)) ∧
    ((0xFEA0 ≤ a.toNat ∧ a.toNat < 0xFF00) ∨ (0xFF01 ≤ a.toNat ∧ a.toNat < 0xFF04) ∨ (0xFF08 ≤ a.toNat ∧ a.toNat < 0xFF0F) ∨
        (0xFF27 ≤ a.toNat ∧ a.toNat < 0xFF30) ∨ (0xFF4C ≤ a.toNat ∧ a.toNat < 0xFF80) →
      memRead s a = 0 ∧ memWrite a v s = s) ∧
    (memWrite 0xFF40 v s = { s with ppu := { s.ppu with lcdc := v } } ∧ memRead s 0xFF40 = s.ppu.lcdc) ∧
    (memWrite 0xFF41 v s = { s with ppu := { s.ppu with statSrc := BitVec.ofNat 4 (v.toNat / 8) } } ∧
      (memRead s 0xFF41).toNat = s.ppu.statSrc.toNat * 8 + (if s.ppu.coincidence = true then 4 else 0) +
        (match s.ppu.mode with | .hblank => 0 | .vblank => 1 | .oamScan => 2 | .transfer => 3)) ∧
    (memWrite 0xFF42 v s = { s with ppu := { s.ppu with scy := v } } ∧ memRead s 0xFF42 = s.ppu.scy) ∧
    (memWrite 0xFF43 v s = { s with ppu := { s.ppu with scx := v } } ∧ memRead s 0xFF43 = s.ppu.scx) ∧
    (memWrite 0xFF44 v s = s ∧ memRead s 0xFF44 = s.ppu.ly) ∧
    (memWrite 0xFF45 v s = { s with ppu := { s.ppu with lyc := v } } ∧ memRead s 0xFF45 = s.ppu.lyc) ∧
    (memWrite 0xFF47 v s = { s with ppu := { s.ppu with bgp := v } } ∧ memRead s 0xFF47 = s.ppu.bgp) ∧
    (memWrite 0xFF48 v s = { s with ppu := { s.ppu with obp0 := v } } ∧ memRead s 0xFF48 = s.ppu.obp0) ∧
    (memWrite 0xFF49 v s = { s with ppu := { s.ppu with obp1 := v } } ∧ memRead s 0xFF49 = s.ppu.obp1) ∧
    (memWrite 0xFF4A v s = { s with ppu := { s.ppu with wy := v } } ∧ memRead s 0xFF4A = s.ppu.wy) ∧
    (memWrite 0xFF4B v s = { s with ppu := { s.ppu with wx := v } } ∧ memRead s 0xFF4B = s.ppu.wx)

/-- R127, R120: no bus write changes a ROM byte, a ROM read at or beyond the image's length gives 0, and no machine step changes the
image, the controller variant, the size of the cartridge's RAM or a parameter. -/
def Obligations.RomVariantAndParametersNeverChange : Prop :=
  (∀ (s : State) (a : Word) (v : Byte), (memWrite a v s).cart.rom = s.cart.rom) ∧
  (∀ (s : State) (a : Word), a.toNat < 0x8000 → s.cart.rom.size ≤ s.cart.romOffset a.toNat → memRead s a = 0) ∧
  (∀ s t : State, step s = .next t →
    t.cart.rom = s.cart.rom ∧ t.cart.variant = s.cart.variant ∧ t.cart.ramSize = s.cart.ramSize ∧ t.params = s.params)

/-- R110, R111: a write of `v` to 0xFF46 stores `v` and copies the 160 bytes of page `v` to OAM, each an ordinary bus read of the state
with the DMA register already written; nothing else changes. That
every page is allowed and that 0xFF46 reads back the last value written is the spec's decision D11 (R111). -/
def Obligations.DmaCopiesPageToOam : Prop :=
  ∀ (s : State) (v : Byte),
    let t := memWrite 0xFF46 v s
    memRead t 0xFF46 = v ∧
    (∀ k : Nat, k < 160 →
      memRead t (0xFE00 + BitVec.ofNat 16 k) = memRead { s with dma := v } (BitVec.ofNat 16 (v.toNat * 256 + k))) ∧
    t = { s with dma := v, ppu := { s.ppu with oam := t.ppu.oam } }

/-- R122, R123, R124: scheme A's registers, its ROM window and its RAM window. -/
def Obligations.SchemeABanking : Prop :=
  ∀ (s : State) (a : Word) (v : Byte), s.cart.variant = .schemeA →
    let n := a.toNat
    (n < 0x2000 → memWrite a v s = { s with cart := { s.cart with ramEnabled := decide (v.toNat % 16 = 0x0A) } }) ∧
    (0x2000 ≤ n → n < 0x4000 → memWrite a v s =
      { s with cart := { s.cart with romBank := if v.toNat % 32 = 0 then 1 else BitVec.ofNat 5 v.toNat } }) ∧
    (0x4000 ≤ n → n < 0x6000 → memWrite a v s = { s with cart := { s.cart with ramBank := BitVec.ofNat 2 v.toNat } }) ∧
    (0x6000 ≤ n → n < 0x8000 → memWrite a v s = { s with cart := { s.cart with bankMode := v.getLsbD 0 } }) ∧
    (n < 0x4000 → memRead s a = romByte s.cart.rom n) ∧
    (0x4000 ≤ n → n < 0x8000 →
      let bank := if s.cart.bankMode = true then s.cart.romBank.toNat else s.cart.ramBank.toNat * 32 + s.cart.romBank.toNat
      memRead s a = romByte s.cart.rom (bank * 0x4000 + (n - 0x4000))) ∧
    (0xA000 ≤ n → n < 0xC000 →
      let off := (if s.cart.bankMode = true then s.cart.ramBank.toNat else 0) * 0x2000 + (n - 0xA000)
      (s.cart.ramEnabled = true ∧ off < s.cart.ramSize → memRead s a = Cells.get s.cart.ram off ∧ memRead (memWrite a v s) a = v) ∧
      (¬ (s.cart.ramEnabled = true ∧ off < s.cart.ramSize) → memRead s a = 0 ∧ memWrite a v s = s))

/-- Byte `k` of a cartridge image; 0 at or beyond its length (R127). -/
def Sys2Proof.Machine.imageByte (rom : Rom) (k : Nat) : Byte := if k < rom.size then Cells.get rom.bytes k else 0

/-- The RAM size of header code `code` (R126). -/
def Sys2Proof.Machine.headerRamSize (code : Byte) : Nat :=
  match code.toNat with
  | 1 => 2048
  | 2 => 8192
  | 3 => 32768
  | 4 => 131072
  | 5 => 65536
  | _ => 0

/-- The machine that construction builds with a variant and a RAM size: ROM bank 1, RAM bank 0, banking mode 0 and RAM disabled (R47),
and the launch inputs. -/
def Sys2Proof.Machine.builtMachine (p : Params) (m : InitMem) (rom : Rom) (variant : Variant) (ramSize : Nat) : State :=
  State.construct p m
    { rom := rom, variant := variant, ramSize := ramSize, ram := m.cartRam, romBank := 1, ramBank := 0, bankMode := false,
      ramEnabled := false }

/-- R125: scheme B's registers, told apart by address bit 8, its ROM window and its 512 bytes of RAM. R121: without banking ROM space
reads the image and ignores writes, and the RAM the header gives is always accessible. R120, R126: construction selects the variant by
header byte 0x0147 and the RAM size by byte 0x0149, and an unknown type builds no machine. How a failed load and the size byte of a
short image are read is the model's choice (log 14). -/
def Obligations.SchemeBBanking : Prop :=
  (∀ (s : State) (a : Word) (v : Byte), s.cart.variant = .schemeB →
    let n := a.toNat
    (n < 0x4000 → a.getLsbD 8 = false →
      memWrite a v s = { s with cart := { s.cart with ramEnabled := decide (v.toNat % 16 = 0x0A) } }) ∧
    (n < 0x4000 → a.getLsbD 8 = true → memWrite a v s =
      { s with cart := { s.cart with romBank := if v.toNat % 16 = 0 then 1 else BitVec.ofNat 5 (v.toNat % 16) } }) ∧
    (0x4000 ≤ n → n < 0x8000 → memWrite a v s = s ∧
      memRead s a = romByte s.cart.rom (s.cart.romBank.toNat * 0x4000 + (n - 0x4000))) ∧
    (n < 0x4000 → memRead s a = romByte s.cart.rom n) ∧
    (0xA000 ≤ n → n < 0xC000 →
      (s.cart.ramEnabled = true → memRead s a = Cells.get s.cart.ram ((n - 0xA000) % 512) ∧ memRead (memWrite a v s) a = v) ∧
      (s.cart.ramEnabled = false → memRead s a = 0 ∧ memWrite a v s = s))) ∧
  (∀ (s : State) (a : Word) (v : Byte), s.cart.variant = .noBanking →
    let n := a.toNat
    (n < 0x8000 → memRead s a = imageByte s.cart.rom n ∧ memWrite a v s = s) ∧
    (0xA000 ≤ n → n < 0xC000 →
      (n - 0xA000 < s.cart.ramSize → memRead s a = Cells.get s.cart.ram (n - 0xA000) ∧ memRead (memWrite a v s) a = v) ∧
      (s.cart.ramSize ≤ n - 0xA000 → memRead s a = 0 ∧ memWrite a v s = s))) ∧
  (∀ (p : Params) (m : InitMem) (rom : Rom),
    let type : Nat := if rom.size < 0x150 then 0 else (imageByte rom 0x147).toNat
    (type ∈ [0x00, 0x08, 0x09] → State.load p m rom = .ok (builtMachine p m rom .noBanking (headerRamSize (imageByte rom 0x149)))) ∧
    (type ∈ [0x01, 0x02, 0x03] → State.load p m rom = .ok (builtMachine p m rom .schemeA (headerRamSize (imageByte rom 0x149)))) ∧
    (type ∈ [0x05, 0x06] → State.load p m rom = .ok (builtMachine p m rom .schemeB 512)) ∧
    (type ∉ [0x00, 0x01, 0x02, 0x03, 0x05, 0x06, 0x08, 0x09] →
      State.load p m rom = .error (.unknownCartridgeType (BitVec.ofNat 8 type))))

/-! ## Timer and joypad -/

/-- R510: a pending overflow is resolved first; DIV counts whole 256 cycles; TIMA, when TAC bit 2 is set, counts whole periods, and an
overflow is left pending for the next advance. Nothing else changes but the Timer request. -/
def Obligations.TimerAdvance : Prop :=
  ∀ (s : State) (n : Nat),
    let t := timerAdvance n s
    let tima := if s.timer.overflowPending = true then s.timer.tma else s.timer.tima
    let period := match (s.timer.tac.toNat % 4) with | 0 => 1024 | 1 => 16 | 2 => 64 | _ => 256
    let ticks := if s.timer.tac.getLsbD 2 = true then (s.timer.timaSub + n) / period else 0
    t = { s with timer := t.timer, regIF := t.regIF } ∧
    t.regIF = (if s.timer.overflowPending = true then s.regIF ||| 0x04 else s.regIF) ∧
    t.timer.div = BitVec.ofNat 8 (s.timer.div.toNat + (s.timer.divSub + n) / 256) ∧
    t.timer.divSub = (s.timer.divSub + n) % 256 ∧
    t.timer.tima = BitVec.ofNat 8 (tima.toNat + ticks) ∧
    t.timer.overflowPending = decide (0xFF < tima.toNat + ticks) ∧
    t.timer.timaSub = (if s.timer.tac.getLsbD 2 = true then (s.timer.timaSub + n) % period else s.timer.timaSub) ∧
    t.timer.tma = s.timer.tma ∧ t.timer.tac = s.timer.tac

/-- R511: any write to 0xFF04 sets DIV and `div_sub` to 0; TIMA, TMA and TAC hold all eight bits written, and a write of TIMA does not
cancel a pending reload. -/
def Obligations.TimerRegisters : Prop :=
  ∀ (s : State) (v : Byte),
    memWrite 0xFF04 v s = { s with timer := { s.timer with div := 0, divSub := 0 } } ∧
    memWrite 0xFF05 v s = { s with timer := { s.timer with tima := v } } ∧
    memWrite 0xFF06 v s = { s with timer := { s.timer with tma := v } } ∧
    memWrite 0xFF07 v s = { s with timer := { s.timer with tac := v } } ∧
    memRead s 0xFF04 = s.timer.div ∧ memRead s 0xFF05 = s.timer.tima ∧ memRead s 0xFF06 = s.timer.tma ∧
    memRead s 0xFF07 = s.timer.tac

/-- R530, R531: bits 7..6 of P1 read 1, bits 5..4 are the select bits last written, and a line reads 0 exactly when a button of a
selected group on that line is pressed. A new mask is stored, and requests the Joypad interrupt exactly when it presses a button that was
not held; the queue of masks is the model's form of the host's input (log 6). -/
def Obligations.JoypadLinesAndRequests : Prop :=
  (∀ (s : State) (v : Byte) (k : Nat), k < 4 →
    let p1 := memRead (memWrite 0xFF00 v s) 0xFF00
    p1.getLsbD 7 = true ∧ p1.getLsbD 6 = true ∧ p1.getLsbD 5 = v.getLsbD 5 ∧ p1.getLsbD 4 = v.getLsbD 4 ∧
    (p1.getLsbD k = false ↔
      v.getLsbD 4 = false ∧ s.joypad.buttons.getLsbD k = true ∨
      v.getLsbD 5 = false ∧ s.joypad.buttons.getLsbD (k + 4) = true)) ∧
  (∀ (s : State) (mask : Byte) (rest : List Byte), s.buttonsIn = mask :: rest →
    let t := pollButtons s
    t = { s with buttonsIn := rest, joypad := { s.joypad with buttons := mask }, regIF := t.regIF } ∧
    ∀ j, t.regIF.getLsbD j = true ↔ s.regIF.getLsbD j = true ∨
      j = 4 ∧ ∃ k, mask.getLsbD k = true ∧ s.joypad.buttons.getLsbD k = false)

/-! ## The picture unit -/

/-- R560, R565: one advance of the scanline state machine by `n` cycles. Below the mode's threshold the mode and LY stay; at or past it
the cycles carry into the next mode. LY, the requests of Vblank and LcdStat and the coincidence bit are those of the rules. The end of
mode 3 with LCDC[7] = 1 renders the line LY, and nothing else changes the frame buffer and the line's colour indexes. -/
def Obligations.PictureUnitTransitions : Prop :=
  ∀ (s : State) (n : Nat),
    let t := ppuAdvance n s
    let clock := s.ppu.modeClock + n
    let threshold := match s.ppu.mode with | .oamScan => 80 | .transfer => 172 | .hblank => 204 | .vblank => 456
    let leaves := threshold ≤ clock
    let ly1 := s.ppu.ly + 1
    let entered : Option Mode := if leaves then
        (match s.ppu.mode with
          | .oamScan => some .transfer
          | .transfer => some .hblank
          | .hblank => if ly1 = 144 then some .vblank else some .oamScan
          | .vblank => if ly1 = 154 then some .oamScan else none)
      else none
    let ly := if leaves then
        (match s.ppu.mode with
          | .oamScan | .transfer => s.ppu.ly
          | .hblank => ly1
          | .vblank => if ly1 = 154 then 0 else ly1)
      else s.ppu.ly
    let lycFires : Bool := ly == s.ppu.lyc && s.ppu.statSrc.getLsbD 3 &&
      (s.params.lycMode == .level || !s.ppu.lycPrev)
    t.ppu.mode = entered.getD s.ppu.mode ∧
    t.ppu.ly = ly ∧
    t.ppu.modeClock = (if leaves then clock - threshold else clock) ∧
    t.ppu.coincidence = (ly == s.ppu.lyc) ∧ t.ppu.lycPrev = (ly == s.ppu.lyc) ∧
    (∀ k, t.regIF.getLsbD k = (s.regIF.getLsbD k ||
      (k == 0 && entered == some .vblank) ||
      (k == 1 && (lycFires || entered == some .hblank && s.ppu.statSrc.getLsbD 0 ||
        entered == some .vblank && s.ppu.statSrc.getLsbD 1 || entered == some .oamScan && s.ppu.statSrc.getLsbD 2)))) ∧
    t.out = (if entered = some .vblank then s.out ++ [.frame s.ppu.fb] else s.out) ∧
    t = { s with ppu := t.ppu, regIF := t.regIF, out := t.out } ∧
    (leaves ∧ s.ppu.mode = .transfer ∧ s.ppu.lcdc.getLsbD 7 = true →
      t.ppu.fb = (renderLine s.params s.ppu.ly s.ppu).fb ∧ t.ppu.bgIndex = (renderLine s.params s.ppu.ly s.ppu).bgIndex) ∧
    (¬ (leaves ∧ s.ppu.mode = .transfer ∧ s.ppu.lcdc.getLsbD 7 = true) → t.ppu.fb = s.ppu.fb ∧ t.ppu.bgIndex = s.ppu.bgIndex) ∧
    t.ppu = { s.ppu with
      mode := t.ppu.mode, ly := t.ppu.ly, modeClock := t.ppu.modeClock, coincidence := t.ppu.coincidence,
      lycPrev := t.ppu.lycPrev, fb := t.ppu.fb, bgIndex := t.ppu.bgIndex }

/-- The background colour index of pixel `px` of line `ly`, by R570's arithmetic on numbers. -/
def Sys2Proof.Machine.backgroundColour (p : Ppu) (ly px : Nat) : BitVec 2 :=
  let y := (ly + p.scy.toNat) % 256
  let x := (px + p.scx.toNat) % 256
  let map := if p.lcdc.getLsbD 3 = true then 0x1C00 else 0x1800
  let idx := Cells.get p.vram (map + y / 8 * 32 + x / 8)
  let tile : Int := if p.lcdc.getLsbD 4 = true then idx.toNat * 16 else 0x1000 + idx.toInt * 16
  let lo := Cells.get p.vram (tile.toNat + y % 8 * 2)
  let hi := Cells.get p.vram (tile.toNat + y % 8 * 2 + 1)
  BitVec.ofBool (hi.getLsbD (7 - x % 8)) ++ BitVec.ofBool (lo.getLsbD (7 - x % 8))

/-- The shade a palette gives a colour index (R554). -/
def Sys2Proof.Machine.shadeOf (palette : Byte) (c : BitVec 2) : BitVec 2 := BitVec.ofNat 2 (palette.toNat / 4 ^ c.toNat)

/-- The shade that sprite `n` gives pixel `px` of line `ly`, if it draws there (R575). -/
def Sys2Proof.Machine.spriteShade (q : Params) (p : Ppu) (ly px n : Nat) : Option (BitVec 2) :=
  let Y := (Cells.get p.oam (4 * n)).toNat
  let X := (Cells.get p.oam (4 * n + 1)).toNat
  let T := (Cells.get p.oam (4 * n + 2)).toNat
  let attr := Cells.get p.oam (4 * n + 3)
  if Y ≤ ly + 16 ∧ ly + 16 < Y + 8 ∧ X ≤ px + 8 ∧ px + 8 < X + 8 then
    let row := if q.objYFlip = true ∧ attr.getLsbD 6 = true then 7 - (ly + 16 - Y) else ly + 16 - Y
    let b := if attr.getLsbD 5 = true then px + 8 - X else 7 - (px + 8 - X)
    let c := BitVec.ofBool ((Cells.get p.vram (T * 16 + row * 2 + 1)).getLsbD b) ++
      BitVec.ofBool ((Cells.get p.vram (T * 16 + row * 2)).getLsbD b)
    let bg := backgroundColour p ly px
    let hidden := attr.getLsbD 7 = true ∧
      (q.objBgPriorityMode = .docLiteral ∧ bg = 0 ∨ q.objBgPriorityMode = .dmg ∧ bg ≠ 0)
    let palette := match q.objPalette with
      | .obp => if attr.getLsbD 4 = true then p.obp1 else p.obp0
      | .bgp => p.bgp
    if c = 0 ∨ hidden then none else some (shadeOf palette c)
  else none

/-- R570: after the background part of `RenderLine(ly)` every pixel of the line is the palette's shade of its colour index, and no pixel
of another line and no VRAM, OAM or register of the picture unit has changed. -/
def Obligations.BackgroundLineIsRendered : Prop :=
  ∀ (p : Ppu) (ly : Byte), ly.toNat < 144 →
    let r := renderBackground ly p
    (∀ px, px < 160 →
      Cells.get r.bgIndex px = backgroundColour p ly.toNat px ∧
      Cells.get r.fb (160 * ly.toNat + px) = shadeOf p.bgp (backgroundColour p ly.toNat px)) ∧
    (∀ k, k < 160 * ly.toNat ∨ 160 * ly.toNat + 160 ≤ k → Cells.get r.fb k = Cells.get p.fb k) ∧
    r = { p with bgIndex := r.bgIndex, fb := r.fb }

/-- R575 with R570: the whole line. With sprites enabled a pixel is the shade of the last sprite of 0..39 that draws there, and of the
background where none does. -/
def Obligations.LastSpriteWins : Prop :=
  ∀ (q : Params) (p : Ppu) (ly : Byte) (px : Nat), ly.toNat < 144 → px < 160 →
    Cells.get (renderLine q ly p).fb (160 * ly.toNat + px) =
      (if p.lcdc.getLsbD 1 = true then (List.range 40).reverse.findSome? (spriteShade q p ly.toNat px) else none).getD
        (shadeOf p.bgp (backgroundColour p ly.toNat px))

/-! ## The sound unit -/

/-- The envelope that a trigger latches from NRx2 (R630). -/
def Sys2Proof.Machine.latchedEnvelope (nrx2 : Byte) : Envelope :=
  ⟨BitVec.ofNat 4 (nrx2.toNat / 16), nrx2.getLsbD 3, BitVec.ofNat 3 nrx2.toNat, (nrx2.toNat % 8 : Nat)⟩

/-- The noise channel's period (R655). -/
def Sys2Proof.Machine.noiseCycles (nr43 : Byte) : Nat :=
  [8, 16, 32, 48, 64, 80, 96, 112].getD (nr43.toNat % 8) 0 * 2 ^ (nr43.toNat / 16)

/-- The state with other bytes in the sound registers, and nothing else changed. -/
def Sys2Proof.Machine.withSoundRegs (s : State) (g : SoundRegs) : State := { s with sound := { s.sound with regs := g } }

/-- The same with another common part of one channel. -/
def Sys2Proof.Machine.withChannel1 (s : State) (g : SoundRegs) (c : Channel) : State :=
  { s with sound := { s.sound with regs := g, ch1 := { s.sound.ch1 with ch := c } } }
def Sys2Proof.Machine.withChannel2 (s : State) (g : SoundRegs) (c : Channel) : State :=
  { s with sound := { s.sound with regs := g, ch2 := { s.sound.ch2 with ch := c } } }
def Sys2Proof.Machine.withChannel3 (s : State) (g : SoundRegs) (c : Channel) : State :=
  { s with sound := { s.sound with regs := g, ch3 := { s.sound.ch3 with ch := c } } }
def Sys2Proof.Machine.withChannel4 (s : State) (g : SoundRegs) (c : Channel) : State :=
  { s with sound := { s.sound with regs := g, ch4 := { s.sound.ch4 with ch := c } } }

/-- R622, R630, R652: what a write of NR14 with bit 7 set leaves of channel 1: it is enabled exactly when its DAC is on and the sweep
does not overflow at once. Then the triggers of channels 2, 3 and 4 (R630), whole. Then R622 and R623: every sound register's write
and read, NRx4 without its bit 7 among them, the status bits of NR52, the two unused addresses and the wave RAM. -/
def Obligations.TriggerOfChannelOne : Prop :=
  (∀ (s : State) (v : Byte), v.getLsbD 7 = true →
    let x := (memWrite 0xFF14 v s).sound
    let f := v.toNat % 8 * 256 + s.sound.regs.nr13.toNat
    let shift := s.sound.regs.nr10.toNat % 8
    let period := s.sound.regs.nr10.toNat / 16 % 8
    let swept := if s.sound.regs.nr10.getLsbD 3 = true then f - f / 2 ^ shift else f + f / 2 ^ shift
    (x.ch1.ch.enabled = true ↔ 8 ≤ s.sound.regs.nr12.toNat ∧ ¬ (shift ≠ 0 ∧ 2047 < swept)) ∧
    x.ch1.ch.lengthEnabled = v.getLsbD 6 ∧
    x.ch1.ch.length = (if s.sound.ch1.ch.length = 0 then 64 else s.sound.ch1.ch.length) ∧
    x.ch1.ch.timer = ((2048 - f) * 4 : Nat) ∧
    x.ch1.dutyPos = 0 ∧
    x.ch1.env.vol.toNat = s.sound.regs.nr12.toNat / 16 ∧ x.ch1.env.dir = s.sound.regs.nr12.getLsbD 3 ∧
    x.ch1.env.period.toNat = s.sound.regs.nr12.toNat % 8 ∧ x.ch1.env.timer = (s.sound.regs.nr12.toNat % 8 : Nat) ∧
    x.ch1.sweep.shadow.toNat = f ∧ x.ch1.sweep.enabled = decide (period ≠ 0 ∨ shift ≠ 0) ∧
    x.ch1.sweep.timer = ((if period = 0 then 8 else period : Nat) : Int) ∧
    x.ch2 = s.sound.ch2 ∧ x.ch3 = s.sound.ch3 ∧ x.ch4 = s.sound.ch4 ∧
    x.waveRam = s.sound.waveRam ∧ x.regs = { s.sound.regs with nr14 := v } ∧
    memWrite 0xFF14 v s = { s with sound := { s.sound with regs := x.regs, ch1 := x.ch1 } }) ∧
  (∀ (s : State) (v : Byte), v.getLsbD 7 = true →
    let g := s.sound.regs
    let f2 := v.toNat % 8 * 256 + g.nr23.toNat
    let f3 := v.toNat % 8 * 256 + g.nr33.toNat
    let c2 : Channel := s.sound.ch2.ch
    let c3 : Channel := s.sound.ch3.ch
    let c4 : Channel := s.sound.ch4.ch
    memWrite 0xFF19 v s = { s with sound := { s.sound with
      regs := { g with nr24 := v }
      ch2  := {
        ch      := ⟨decide (8 ≤ g.nr22.toNat), ((2048 - f2) * 4 : Nat), v.getLsbD 6, if c2.length = 0 then 64 else c2.length⟩
        dutyPos := 0
        env     := latchedEnvelope g.nr22
        sweep   := ⟨false, BitVec.ofNat 11 f2, 8⟩ } } } ∧
    memWrite 0xFF1E v s = { s with sound := { s.sound with
      regs := { g with nr34 := v }
      ch3  := ⟨⟨g.nr30.getLsbD 7, ((2048 - f3) * 2 : Nat), v.getLsbD 6, if c3.length = 0 then 256 else c3.length⟩, 0⟩ } } ∧
    memWrite 0xFF23 v s = { s with sound := { s.sound with
      regs := { g with nr44 := v }
      ch4  := {
        ch   := ⟨decide (8 ≤ g.nr42.toNat), (noiseCycles g.nr43 : Nat), v.getLsbD 6, if c4.length = 0 then 64 else c4.length⟩
        lfsr := 0x7FFF
        env  := latchedEnvelope g.nr42 } } }) ∧
  (∀ (s : State) (v : Byte),
    let g := s.sound.regs
    let c1 : Channel := s.sound.ch1.ch
    let c2 : Channel := s.sound.ch2.ch
    let c3 : Channel := s.sound.ch3.ch
    let c4 : Channel := s.sound.ch4.ch
    (memWrite 0xFF10 v s = withSoundRegs s { g with nr10 := v } ∧
      memWrite 0xFF13 v s = withSoundRegs s { g with nr13 := v } ∧
      memWrite 0xFF18 v s = withSoundRegs s { g with nr23 := v } ∧
      memWrite 0xFF1C v s = withSoundRegs s { g with nr32 := v } ∧
      memWrite 0xFF1D v s = withSoundRegs s { g with nr33 := v } ∧
      memWrite 0xFF22 v s = withSoundRegs s { g with nr43 := v } ∧
      memWrite 0xFF24 v s = withSoundRegs s { g with nr50 := v } ∧
      memWrite 0xFF25 v s = withSoundRegs s { g with nr51 := v } ∧
      memWrite 0xFF26 v s = withSoundRegs s { g with master := v.getLsbD 7 }) ∧
    (memWrite 0xFF11 v s = withChannel1 s { g with nr11 := v } { c1 with length := 64 - v.toNat % 64 } ∧
      memWrite 0xFF16 v s = withChannel2 s { g with nr21 := v } { c2 with length := 64 - v.toNat % 64 } ∧
      memWrite 0xFF1B v s = withChannel3 s { g with nr31 := v } { c3 with length := 256 - v.toNat } ∧
      memWrite 0xFF20 v s = withChannel4 s { g with nr41 := v } { c4 with length := 64 - v.toNat % 64 }) ∧
    (memWrite 0xFF12 v s = withChannel1 s { g with nr12 := v } { c1 with enabled := c1.enabled && decide (8 ≤ v.toNat) } ∧
      memWrite 0xFF17 v s = withChannel2 s { g with nr22 := v } { c2 with enabled := c2.enabled && decide (8 ≤ v.toNat) } ∧
      memWrite 0xFF1A v s = withChannel3 s { g with nr30 := v } { c3 with enabled := c3.enabled && v.getLsbD 7 } ∧
      memWrite 0xFF21 v s = withChannel4 s { g with nr42 := v } { c4 with enabled := c4.enabled && decide (8 ≤ v.toNat) }) ∧
    (v.getLsbD 7 = false →
      memWrite 0xFF14 v s = withChannel1 s { g with nr14 := v } { c1 with lengthEnabled := v.getLsbD 6 } ∧
      memWrite 0xFF19 v s = withChannel2 s { g with nr24 := v } { c2 with lengthEnabled := v.getLsbD 6 } ∧
      memWrite 0xFF1E v s = withChannel3 s { g with nr34 := v } { c3 with lengthEnabled := v.getLsbD 6 } ∧
      memWrite 0xFF23 v s = withChannel4 s { g with nr44 := v } { c4 with lengthEnabled := v.getLsbD 6 }) ∧
    ([0xFF10, 0xFF11, 0xFF12, 0xFF13, 0xFF14, 0xFF16, 0xFF17, 0xFF18, 0xFF19, 0xFF1A, 0xFF1B, 0xFF1C, 0xFF1D, 0xFF1E, 0xFF20,
        0xFF21, 0xFF22, 0xFF23, 0xFF24, 0xFF25].map (memRead s) =
      [g.nr10, g.nr11, g.nr12, g.nr13, g.nr14, g.nr21, g.nr22, g.nr23, g.nr24, g.nr30, g.nr31, g.nr32, g.nr33, g.nr34, g.nr41,
        g.nr42, g.nr43, g.nr44, g.nr50, g.nr51]) ∧
    (memRead s 0xFF26).toNat = (if g.master = true then 128 else 0) + (if c4.enabled = true then 8 else 0) +
      (if c3.enabled = true then 4 else 0) + (if c2.enabled = true then 2 else 0) + (if c1.enabled = true then 1 else 0) ∧
    (∀ a : Word, a = 0xFF15 ∨ a = 0xFF1F → memRead s a = 0 ∧ memWrite a v s = s) ∧
    (∀ k : Nat, k < 16 →
      let a : Word := 0xFF30 + BitVec.ofNat 16 k
      memRead s a = Cells.get s.sound.waveRam k ∧ memRead (memWrite a v s) a = v ∧
      memWrite a v s = { s with sound := { s.sound with waveRam := Cells.set s.sound.waveRam k v } }))

/-- An advance by `n` cycles fires a frame-sequencer step that is one of `steps` (R640). -/
def Sys2Proof.Machine.sequencerFires (x : Sound) (n : Nat) (steps : List Nat) : Bool :=
  decide (8192 ≤ x.fsAcc + n ∧ x.fsStep.toNat ∈ steps)

/-- R645, R648: a length tick disables the channel exactly on the tick that reaches zero; an envelope tick moves the volume by at most
one, only when its timer runs out, and never past 0 or 15. An envelope timer is an integer, so that one at or below 0 counts on down:
that is the model's choice (log 13). R640: the advance by `n` cycles fires at most one step of the frame sequencer; the even steps tick
the lengths, steps 2 and 6 the sweeps, step 7 the envelopes; the sweep's frequency is written back to channel 1's registers; then every
frequency timer runs by `n` with the period its registers now give, moving the wave position or the shift register at each reload. -/
def Obligations.LengthAndEnvelopeTicks : Prop :=
  (∀ c : Channel,
    (c.lengthEnabled = true ∧ 0 < c.length → c.lengthTick.length = c.length - 1 ∧
      c.lengthTick.enabled = (c.enabled && decide (1 < c.length))) ∧
    (¬ (c.lengthEnabled = true ∧ 0 < c.length) → c.lengthTick = c) ∧
    c.lengthTick.timer = c.timer ∧ c.lengthTick.lengthEnabled = c.lengthEnabled) ∧
  (∀ e : Envelope,
    (e.period = 0 → e.tick = e) ∧
    (e.period ≠ 0 → e.timer ≠ 1 → e.tick = { e with timer := e.timer - 1 }) ∧
    (e.period ≠ 0 → e.timer = 1 → e.tick.timer = e.period.toNat ∧ e.tick.period = e.period ∧ e.tick.dir = e.dir ∧
      e.tick.vol.toNat = if e.dir = true then min 15 (e.vol.toNat + 1) else e.vol.toNat - 1)) ∧
  (∀ (x : Sound) (n : Nat),
    let tick := sequencerFires x n [0, 2, 4, 6]
    let c1 : Channel := if tick then x.ch1.ch.lengthTick else x.ch1.ch
    let c2 : Channel := if tick then x.ch2.ch.lengthTick else x.ch2.ch
    let c3 : Channel := if tick then x.ch3.ch.lengthTick else x.ch3.ch
    let c4 : Channel := if tick then x.ch4.ch.lengthTick else x.ch4.ch
    let e1 : Envelope := if sequencerFires x n [7] then x.ch1.env.tick else x.ch1.env
    let e2 : Envelope := if sequencerFires x n [7] then x.ch2.env.tick else x.ch2.env
    let e4 : Envelope := if sequencerFires x n [7] then x.ch4.env.tick else x.ch4.env
    let p1 : Pulse := { x.ch1 with ch := c1 }
    let r1 := if sequencerFires x n [2, 6] then p1.sweepTick (sweepParams1 x.regs) else (p1, none)
    let p2 : Pulse := { x.ch2 with ch := c2 }
    let r2 := if sequencerFires x n [2, 6] then p2.sweepTick sweepParams2 else (p2, none)
    let g := x.regs.writeBack1 r1.2
    let t1 := timerAdvanceBy n ((2048 - (g.nr14.toNat % 8 * 256 + g.nr13.toNat)) * 4) r1.1.ch.timer
    let t2 := timerAdvanceBy n ((2048 - (g.nr24.toNat % 8 * 256 + g.nr23.toNat)) * 4) r2.1.ch.timer
    let t3 := timerAdvanceBy n ((2048 - (g.nr34.toNat % 8 * 256 + g.nr33.toNat)) * 2) c3.timer
    let t4 := timerAdvanceBy n (noiseCycles g.nr43) c4.timer
    x.advance n = {
      regs      := g
      waveRam   := x.waveRam
      ch1       := ⟨{ r1.1.ch with timer := t1.1 }, BitVec.ofNat 3 (x.ch1.dutyPos.toNat + t1.2), e1, r1.1.sweep⟩
      ch2       := ⟨{ r2.1.ch with timer := t2.1 }, BitVec.ofNat 3 (x.ch2.dutyPos.toNat + t2.2), e2, r2.1.sweep⟩
      ch3       := ⟨{ c3 with timer := t3.1 }, BitVec.ofNat 5 (x.ch3.wavePos.toNat + t3.2)⟩
      ch4       := ⟨{ c4 with timer := t4.1 }, (lfsrStep (g.nr43.getLsbD 3))^[t4.2] x.ch4.lfsr, e4⟩
      fsAcc     := if 8192 ≤ x.fsAcc + n then x.fsAcc + n - 8192 else x.fsAcc + n
      fsStep    := if 8192 ≤ x.fsAcc + n then BitVec.ofNat 3 (x.fsStep.toNat + 1) else x.fsStep
      sampleAcc := x.sampleAcc })

/-- R641, R655: the loop of the frequency timer as a fact about its result: the timer ends above 0, it has been reloaded `k` times, and
one reload less would have left it at or below 0. And one step of the LFSR, bit by bit: every bit takes its left neighbour, bit 14 takes
the exclusive or of the two lowest, and so does bit 6 in the 7-bit mode. -/
def Obligations.FrequencyTimerAndLfsr : Prop :=
  (∀ (n period : Nat) (timer : Int), 0 < period →
    let r := timerAdvanceBy n period timer
    0 < r.1 ∧ r.1 = timer - n + (r.2 * period : Nat) ∧ (r.2 ≠ 0 → r.1 - period ≤ 0)) ∧
  (∀ (narrow : Bool) (l : BitVec 15) (k : Nat), k < 15 →
    (lfsrStep narrow l).getLsbD k =
      if k = 14 ∨ (k = 6 ∧ narrow = true) then Bool.xor (l.getLsbD 0) (l.getLsbD 1) else l.getLsbD (k + 1))

/-- `SweepCalc` (R651) of the frequency `f`: an integer, which may exceed 2047. -/
def Sys2Proof.Machine.sweptFrequency (q : SweepParams) (f : Nat) : Nat :=
  if q.negate = true then f - f / 2 ^ q.shift.toNat else f + f / 2 ^ q.shift.toNat

/-- R650, R651: a sweep tick, case by case. With the sweep off nothing changes; a timer above 1 counts down; else the timer is reloaded
and, with a period of 0, nothing more happens; a frequency above 2047 disables the channel; with a shift of 0 nothing is written; else
the frequency becomes the shadow and is written back, and a second overflow disables the channel. The parameters of channel 2 are 0, so
its tick writes nothing back and leaves its channel alone. The write-back reaches NR13 and the low three bits of NR14. A sweep timer is
an integer, and one at or below 0 is past its end like one at 1: that is the model's choice (log 13). -/
def Obligations.SweepTick : Prop :=
  (∀ (q : SweepParams) (c : Pulse),
    let f := sweptFrequency q c.sweep.shadow.toNat
    (c.sweep.enabled = false → c.sweepTick q = (c, none)) ∧
    (c.sweep.enabled = true → 1 < c.sweep.timer →
      c.sweepTick q = ({ c with sweep := { c.sweep with timer := c.sweep.timer - 1 } }, none)) ∧
    (c.sweep.enabled = true → c.sweep.timer ≤ 1 → q.period = 0 →
      c.sweepTick q = ({ c with sweep := { c.sweep with timer := 8 } }, none)) ∧
    (c.sweep.enabled = true → c.sweep.timer ≤ 1 → q.period ≠ 0 → 2047 < f →
      c.sweepTick q =
        ({ c with sweep := { c.sweep with timer := q.period.toNat }, ch := { c.ch with enabled := false } }, none)) ∧
    (c.sweep.enabled = true → c.sweep.timer ≤ 1 → q.period ≠ 0 → f ≤ 2047 → q.shift = 0 →
      c.sweepTick q = ({ c with sweep := { c.sweep with timer := q.period.toNat } }, none)) ∧
    (c.sweep.enabled = true → c.sweep.timer ≤ 1 → q.period ≠ 0 → f ≤ 2047 → q.shift ≠ 0 →
      c.sweepTick q =
        ({ c with
            sweep := { c.sweep with timer := q.period.toNat, shadow := BitVec.ofNat 11 f }
            ch    := { c.ch with enabled := c.ch.enabled && decide (sweptFrequency q f ≤ 2047) } },
          some (BitVec.ofNat 11 f)))) ∧
  (∀ g : SoundRegs,
    sweepParams1 g = ⟨BitVec.ofNat 3 (g.nr10.toNat / 16), g.nr10.getLsbD 3, BitVec.ofNat 3 g.nr10.toNat⟩ ∧
    g.writeBack1 none = g ∧
    ∀ f : BitVec 11, g.writeBack1 (some f) = { g with
      nr13 := BitVec.ofNat 8 f.toNat, nr14 := BitVec.ofNat 8 (g.nr14.toNat / 8 * 8 + f.toNat / 256) }) ∧
  sweepParams2 = ⟨0, false, 0⟩ ∧ (∀ c : Pulse, (c.sweepTick sweepParams2).2 = none ∧ (c.sweepTick sweepParams2).1.ch = c.ch)

/-- The duty table of R660. -/
def Sys2Proof.Machine.dutyTable : List (List Nat) :=
  [[0, 0, 0, 0, 0, 0, 0, 1], [1, 0, 0, 0, 0, 0, 0, 1], [1, 0, 0, 0, 0, 1, 1, 1], [0, 1, 1, 1, 1, 1, 1, 0]]

/-- The level of a pulse channel with duty register `nrx1` (R660). -/
def Sys2Proof.Machine.pulseLevel (nrx1 : Byte) (c : Pulse) : Nat :=
  if c.ch.enabled = true then (dutyTable.getD (nrx1.toNat / 64) []).getD c.dutyPos.toNat 0 * c.env.vol.toNat else 0

/-- The level of channel `k` (R660). -/
def Sys2Proof.Machine.channelLevel (x : Sound) (k : Nat) : Nat :=
  match k with
  | 1 => pulseLevel x.regs.nr11 x.ch1
  | 2 => pulseLevel x.regs.nr21 x.ch2
  | 3 =>
    let byte := (Cells.get x.waveRam (x.ch3.wavePos.toNat / 2)).toNat
    let sample := if x.ch3.wavePos.toNat % 2 = 0 then byte / 16 else byte % 16
    if x.ch3.ch.enabled = true then sample / 2 ^ [4, 0, 1, 2].getD (x.regs.nr32.toNat / 32 % 4) 0 else 0
  | _ => if x.ch4.ch.enabled = true ∧ x.ch4.lfsr.getLsbD 0 = false then x.ch4.env.vol.toNat else 0

/-- One side of the mixer (R670): the quartered sum of the channels whose bit of NR51, from bit `base` up, is set. -/
def Sys2Proof.Machine.mixedSide (x : Sound) (base : Nat) : Rat :=
  ([1, 2, 3, 4].map fun k =>
    if x.regs.nr51.getLsbD (base + k - 1) = true then Config.dacOut (BitVec.ofNat 4 (channelLevel x k)) else 0).sum / 4

/-- R670, R672, R660: an advance emits one sample for every whole period, and the remainder carries. Every sample of the advance is the
mix of the sound unit as the advance leaves it: the two sides, quartered sums of the enabled channels' levels, and NR50, or (0, 0) with
the master enable off. `DAC_OUT` and `MIX_QUANT` are left open (D30, log 5). But for the count of cycles owed, the sound unit is left
as LengthAndEnvelopeTicks says. The count is in units of 1 / `samplePeriodDen` (log 4). -/
def Obligations.SamplesAtTheCadence : Prop :=
  ∀ (s : State) (n : Nat), 0 < s.params.samplePeriodNum →
    let t := soundAdvance n s
    let pair := t.sound.mix
    pair = (if t.sound.regs.master = true then Config.mixQuant (mixedSide t.sound 4) (mixedSide t.sound 0) t.sound.regs.nr50
      else (0, 0)) ∧
    (∃ k, t.out = s.out ++ List.replicate k (.sample pair.1 pair.2) ∧
      s.sound.sampleAcc + n * s.params.samplePeriodDen = k * s.params.samplePeriodNum + t.sound.sampleAcc) ∧
    t.sound.sampleAcc < s.params.samplePeriodNum ∧
    t.sound = { s.sound.advance n with sampleAcc := t.sound.sampleAcc } ∧
    t = { s with sound := t.sound, out := t.out }

/-! ## Reset and the invariant -/

/-- R48, R41, R702: the values the spec gives for reset. -/
def Obligations.ResetValues : Prop :=
  let s := State.reset
  s.regs = ⟨0x01, 0xB0, 0x00, 0x13, 0x00, 0xD8, 0x01, 0x4D, 0xFFFE, 0x0100⟩ ∧
  s.ime = false ∧ s.eiDelay = 0 ∧ s.halted = false ∧ s.stopped = false ∧ s.haltBug = false ∧ s.fault = none ∧
  memRead s 0xFF00 = 0xFF ∧ memRead s 0xFF04 = 0 ∧ memRead s 0xFF05 = 0 ∧ memRead s 0xFF06 = 0 ∧ memRead s 0xFF07 = 0 ∧
  memRead s 0xFF0F = 0 ∧ memRead s 0xFF26 = 0x80 ∧ memRead s 0xFF40 = 0x91 ∧ memRead s 0xFF41 = 0x06 ∧ memRead s 0xFF42 = 0 ∧
  memRead s 0xFF43 = 0 ∧ memRead s 0xFF44 = 0 ∧ memRead s 0xFF45 = 0 ∧ memRead s 0xFF46 = 0 ∧ memRead s 0xFF47 = 0xFC ∧
  memRead s 0xFF48 = 0xFF ∧ memRead s 0xFF49 = 0xFF ∧ memRead s 0xFF4A = 0 ∧ memRead s 0xFF4B = 0 ∧ memRead s 0xFFFF = 0 ∧
  s.sound.ch4.lfsr = 0x7FFF ∧ s.cart.romBank = 1

/-- The invariant holds at reset. -/
def Obligations.ResetInv : Prop := State.Inv State.reset

/-- Every machine step keeps the invariant: the flags' low bits stay 0, every memory stays in canonical form, LY and the mode agree and
`mode_clock` stays below its threshold, the DACs gate the channels, and the control state is legal. -/
def Obligations.StepKeepsInv : Prop := ∀ s t : State, s.Inv → step s = .next t → t.Inv
end

