-- ==== Sys2Proof/Laws/Memory.lean ====
section
/-! SUPPORT. The laws of sparse storage: a read after a write, and that every operation keeps the canonical form. -/

namespace Sys2Proof.Machine.Cells

variable {w : Nat}

@[simp] theorem get_nil (a : Nat) : get ([] : Cells w) a = unlisted w := rfl

theorem get_cons (x : Nat × BitVec w) (m : Cells w) (a : Nat) :
    get (x :: m) a = if x.1 = a then x.2 else get m a := rfl

theorem erase_cons (x : Nat × BitVec w) (m : Cells w) (a : Nat) :
    erase (x :: m) a = if x.1 = a then erase m a else x :: erase m a := rfl

@[simp] theorem get_erase_same (m : Cells w) (a : Nat) : get (erase m a) a = unlisted w := by
  induction m with
  | nil => rfl
  | cons x m ih => rw [erase_cons]; split <;> simp_all [get_cons]

theorem get_erase_other (m : Cells w) {a b : Nat} (h : b ≠ a) : get (erase m a) b = get m b := by
  induction m with
  | nil => rfl
  | cons x m ih =>
    rw [erase_cons]
    split
    · next e => subst e; rw [ih, get_cons, if_neg (Ne.symm h)]
    · simp only [get_cons, ih]

theorem get_insert_same (m : Cells w) (a : Nat) (v : BitVec w) (h : ∀ x ∈ m, x.1 ≠ a) : get (insert m a v) a = v := by
  induction m with
  | nil => simp [insert, get_cons]
  | cons x m ih =>
    simp only [insert]
    split
    · simp [get_cons]
    · rw [get_cons, if_neg (h x (by simp)), ih fun y hy => h y (by simp [hy])]

theorem get_insert_other (m : Cells w) {a b : Nat} (v : BitVec w) (h : b ≠ a) : get (insert m a v) b = get m b := by
  induction m with
  | nil => simp [insert, get_cons, Ne.symm h]
  | cons x m ih =>
    simp only [insert]
    split
    · rw [get_cons, if_neg (Ne.symm h)]
    · simp only [get_cons, ih]

theorem mem_of_mem_erase {m : Cells w} {a : Nat} {x : Nat × BitVec w} (h : x ∈ erase m a) : x ∈ m ∧ x.1 ≠ a := by
  induction m with
  | nil => simp [erase] at h
  | cons y m ih =>
    rw [erase_cons] at h
    split at h
    · exact ⟨by simp [(ih h).1], (ih h).2⟩
    · rcases List.mem_cons.mp h with rfl | h
      · exact ⟨by simp, ‹_›⟩
      · exact ⟨by simp [(ih h).1], (ih h).2⟩

theorem mem_of_mem_insert {m : Cells w} {a : Nat} {v : BitVec w} {x : Nat × BitVec w} (h : x ∈ insert m a v) :
    x = (a, v) ∨ x ∈ m := by
  induction m with
  | nil => simpa [insert] using h
  | cons y m ih =>
    simp only [insert] at h
    split at h
    · simpa using h
    · rcases List.mem_cons.mp h with rfl | h
      · simp
      · rcases ih h with h | h <;> simp [h]

/-- A read of the index written gives the value written. -/
@[simp] theorem get_set_same (m : Cells w) (a : Nat) (v : BitVec w) : get (set m a v) a = v := by
  unfold set
  split
  · next h => rw [get_erase_same, h]
  · exact get_insert_same _ _ _ fun x hx => (mem_of_mem_erase hx).2

/-- A read of another index is unchanged. -/
theorem get_set_other (m : Cells w) {a b : Nat} (v : BitVec w) (h : b ≠ a) : get (set m a v) b = get m b := by
  unfold set
  split
  · exact get_erase_other m h
  · rw [get_insert_other _ v h, get_erase_other m h]

theorem get_set (m : Cells w) (a b : Nat) (v : BitVec w) : get (set m a v) b = if b = a then v else get m b := by
  split
  · next h => rw [h, get_set_same]
  · next h => exact get_set_other m v h

theorem wf_nil (size : Nat) : Wf size ([] : Cells w) := by unfold Wf; simp

theorem wf_erase {size : Nat} {m : Cells w} (h : Wf size m) (a : Nat) : Wf size (erase m a) := by
  induction m with
  | nil => exact h
  | cons y m ih =>
    obtain ⟨hp, hm⟩ := h
    have ih := ih ⟨hp.of_cons, fun x hx => hm x (by simp [hx])⟩
    rw [erase_cons]
    split
    · exact ih
    · refine ⟨List.pairwise_cons.mpr ⟨fun x hx => ?_, ih.1⟩, fun x hx => ?_⟩
      · exact (List.pairwise_cons.mp hp).1 x (mem_of_mem_erase hx).1
      · rcases List.mem_cons.mp hx with rfl | hx
        · exact hm _ (by simp)
        · exact ih.2 x hx

theorem wf_insert {size : Nat} {m : Cells w} {a : Nat} {v : BitVec w} (h : Wf size m) (ha : a < size)
    (hv : v ≠ unlisted w) (hn : ∀ x ∈ m, x.1 ≠ a) : Wf size (insert m a v) := by
  induction m with
  | nil => simp [insert, Wf, ha, hv]
  | cons y m ih =>
    obtain ⟨hp, hm⟩ := h
    have hp' := List.pairwise_cons.mp hp
    simp only [insert]
    split
    · next hlt =>
      refine ⟨List.pairwise_cons.mpr ⟨fun x hx => ?_, hp⟩, fun x hx => ?_⟩
      · rcases List.mem_cons.mp hx with rfl | hx
        · exact hlt
        · exact Nat.lt_trans hlt (hp'.1 x hx)
      · rcases List.mem_cons.mp hx with rfl | hx
        · exact ⟨hv, ha⟩
        · exact hm x hx
    · next hge =>
      have ih := ih ⟨hp'.2, fun x hx => hm x (by simp [hx])⟩ fun x hx => hn x (by simp [hx])
      have hlt : y.1 < a := by have := hn y (by simp); omega
      refine ⟨List.pairwise_cons.mpr ⟨fun x hx => ?_, ih.1⟩, fun x hx => ?_⟩
      · rcases mem_of_mem_insert hx with rfl | hx
        · exact hlt
        · exact hp'.1 x hx
      · rcases List.mem_cons.mp hx with rfl | hx
        · exact hm _ (by simp)
        · exact ih.2 x hx

/-- A write within the storage keeps the canonical form. -/
theorem wf_set {size : Nat} {m : Cells w} (h : Wf size m) {a : Nat} (ha : a < size) (v : BitVec w) :
    Wf size (set m a v) := by
  unfold set
  split
  · exact wf_erase h a
  · next hv => exact wf_insert (wf_erase h a) ha hv fun x hx => (mem_of_mem_erase hx).2

/-- In canonical form, equal reads everywhere make equal lists. -/
theorem ext_of_wf {size : Nat} {m n : Cells w} (hm : Wf size m) (hn : Wf size n) (h : ∀ a, get m a = get n a) : m = n := by
  have low : ∀ (l : Cells w) (a : Nat), (∀ x ∈ l, a < x.1) → get l a = unlisted w := by
    intro l a
    induction l with
    | nil => simp
    | cons y l ih =>
      intro hl
      have := hl y (by simp)
      rw [get_cons, if_neg (by omega), ih fun x hx => hl x (by simp [hx])]
  induction m generalizing n with
  | nil =>
    cases n with
    | nil => rfl
    | cons y n =>
      have := h y.1
      rw [get_nil, get_cons, if_pos rfl] at this
      exact absurd this.symm (hn.2 y (by simp)).1
  | cons x m ih =>
    cases n with
    | nil =>
      have := h x.1
      rw [get_nil, get_cons, if_pos rfl] at this
      exact absurd this (hm.2 x (by simp)).1
    | cons y n =>
      have hm' := List.pairwise_cons.mp hm.1
      have hn' := List.pairwise_cons.mp hn.1
      have hx := (hm.2 x (by simp)).1
      have hy := (hn.2 y (by simp)).1
      have key : x.1 = y.1 := by
        rcases Nat.lt_trichotomy x.1 y.1 with hlt | heq | hgt
        · have := h x.1
          rw [get_cons, if_pos rfl, low (y :: n) x.1 (by
            intro z hz
            rcases List.mem_cons.mp hz with rfl | hz
            · exact hlt
            · exact Nat.lt_trans hlt (hn'.1 z hz))] at this
          exact absurd this hx
        · exact heq
        · have := h y.1
          rw [get_cons y, if_pos rfl, low (x :: m) y.1 (by
            intro z hz
            rcases List.mem_cons.mp hz with rfl | hz
            · exact hgt
            · exact Nat.lt_trans hgt (hm'.1 z hz))] at this
          exact absurd this.symm hy
      have val : x.2 = y.2 := by
        have := h x.1
        rw [get_cons, if_pos rfl, get_cons, if_pos key.symm] at this
        exact this
      have xy : x = y := Prod.ext key val
      subst xy
      congr 1
      refine ih ⟨hm'.2, fun z hz => hm.2 z (by simp [hz])⟩ ⟨hn'.2, fun z hz => hn.2 z (by simp [hz])⟩ fun a => ?_
      by_cases ha : x.1 = a
      · subst ha; rw [low m x.1 hm'.1, low n x.1 hn'.1]
      · have := h a; rwa [get_cons, if_neg ha, get_cons, if_neg ha] at this

end Sys2Proof.Machine.Cells
end

