-- ==== Sys2Proof/Laws/State.lean ====
section
/-! SUPPORT. What each update of the CPU's registers leaves in each field of the state: the field it writes, and every other field
as it was. Later proofs cite these and never unfold an update. -/

namespace Sys2Proof.Machine

variable (s : State)


/-! ## `setPc` -/

@[simp] theorem setPc_ime (v : Word) : (s.setPc v).ime = s.ime := rfl
@[simp] theorem setPc_eiDelay (v : Word) : (s.setPc v).eiDelay = s.eiDelay := rfl
@[simp] theorem setPc_halted (v : Word) : (s.setPc v).halted = s.halted := rfl
@[simp] theorem setPc_stopped (v : Word) : (s.setPc v).stopped = s.stopped := rfl
@[simp] theorem setPc_haltBug (v : Word) : (s.setPc v).haltBug = s.haltBug := rfl
@[simp] theorem setPc_fault (v : Word) : (s.setPc v).fault = s.fault := rfl
@[simp] theorem setPc_regIF (v : Word) : (s.setPc v).regIF = s.regIF := rfl
@[simp] theorem setPc_regIE (v : Word) : (s.setPc v).regIE = s.regIE := rfl
@[simp] theorem setPc_wram (v : Word) : (s.setPc v).wram = s.wram := rfl
@[simp] theorem setPc_hram (v : Word) : (s.setPc v).hram = s.hram := rfl
@[simp] theorem setPc_dma (v : Word) : (s.setPc v).dma = s.dma := rfl
@[simp] theorem setPc_timer (v : Word) : (s.setPc v).timer = s.timer := rfl
@[simp] theorem setPc_joypad (v : Word) : (s.setPc v).joypad = s.joypad := rfl
@[simp] theorem setPc_ppu (v : Word) : (s.setPc v).ppu = s.ppu := rfl
@[simp] theorem setPc_sound (v : Word) : (s.setPc v).sound = s.sound := rfl
@[simp] theorem setPc_cart (v : Word) : (s.setPc v).cart = s.cart := rfl
@[simp] theorem setPc_params (v : Word) : (s.setPc v).params = s.params := rfl
@[simp] theorem setPc_buttonsIn (v : Word) : (s.setPc v).buttonsIn = s.buttonsIn := rfl
@[simp] theorem setPc_cycles (v : Word) : (s.setPc v).cycles = s.cycles := rfl
@[simp] theorem setPc_out (v : Word) : (s.setPc v).out = s.out := rfl
@[simp] theorem setPc_a (v : Word) : (s.setPc v).regs.a = s.regs.a := rfl
@[simp] theorem setPc_f (v : Word) : (s.setPc v).regs.f = s.regs.f := rfl
@[simp] theorem setPc_b (v : Word) : (s.setPc v).regs.b = s.regs.b := rfl
@[simp] theorem setPc_c (v : Word) : (s.setPc v).regs.c = s.regs.c := rfl
@[simp] theorem setPc_d (v : Word) : (s.setPc v).regs.d = s.regs.d := rfl
@[simp] theorem setPc_e (v : Word) : (s.setPc v).regs.e = s.regs.e := rfl
@[simp] theorem setPc_h (v : Word) : (s.setPc v).regs.h = s.regs.h := rfl
@[simp] theorem setPc_l (v : Word) : (s.setPc v).regs.l = s.regs.l := rfl
@[simp] theorem setPc_sp (v : Word) : (s.setPc v).regs.sp = s.regs.sp := rfl
@[simp] theorem setPc_pc (v : Word) : (s.setPc v).regs.pc = v := rfl
@[simp] theorem setPc_getReg (v : Word) (x : Reg8) : (s.setPc v).getReg x = s.getReg x := by cases x <;> rfl

/-! ## `setSp` -/

@[simp] theorem setSp_ime (v : Word) : (s.setSp v).ime = s.ime := rfl
@[simp] theorem setSp_eiDelay (v : Word) : (s.setSp v).eiDelay = s.eiDelay := rfl
@[simp] theorem setSp_halted (v : Word) : (s.setSp v).halted = s.halted := rfl
@[simp] theorem setSp_stopped (v : Word) : (s.setSp v).stopped = s.stopped := rfl
@[simp] theorem setSp_haltBug (v : Word) : (s.setSp v).haltBug = s.haltBug := rfl
@[simp] theorem setSp_fault (v : Word) : (s.setSp v).fault = s.fault := rfl
@[simp] theorem setSp_regIF (v : Word) : (s.setSp v).regIF = s.regIF := rfl
@[simp] theorem setSp_regIE (v : Word) : (s.setSp v).regIE = s.regIE := rfl
@[simp] theorem setSp_wram (v : Word) : (s.setSp v).wram = s.wram := rfl
@[simp] theorem setSp_hram (v : Word) : (s.setSp v).hram = s.hram := rfl
@[simp] theorem setSp_dma (v : Word) : (s.setSp v).dma = s.dma := rfl
@[simp] theorem setSp_timer (v : Word) : (s.setSp v).timer = s.timer := rfl
@[simp] theorem setSp_joypad (v : Word) : (s.setSp v).joypad = s.joypad := rfl
@[simp] theorem setSp_ppu (v : Word) : (s.setSp v).ppu = s.ppu := rfl
@[simp] theorem setSp_sound (v : Word) : (s.setSp v).sound = s.sound := rfl
@[simp] theorem setSp_cart (v : Word) : (s.setSp v).cart = s.cart := rfl
@[simp] theorem setSp_params (v : Word) : (s.setSp v).params = s.params := rfl
@[simp] theorem setSp_buttonsIn (v : Word) : (s.setSp v).buttonsIn = s.buttonsIn := rfl
@[simp] theorem setSp_cycles (v : Word) : (s.setSp v).cycles = s.cycles := rfl
@[simp] theorem setSp_out (v : Word) : (s.setSp v).out = s.out := rfl
@[simp] theorem setSp_a (v : Word) : (s.setSp v).regs.a = s.regs.a := rfl
@[simp] theorem setSp_f (v : Word) : (s.setSp v).regs.f = s.regs.f := rfl
@[simp] theorem setSp_b (v : Word) : (s.setSp v).regs.b = s.regs.b := rfl
@[simp] theorem setSp_c (v : Word) : (s.setSp v).regs.c = s.regs.c := rfl
@[simp] theorem setSp_d (v : Word) : (s.setSp v).regs.d = s.regs.d := rfl
@[simp] theorem setSp_e (v : Word) : (s.setSp v).regs.e = s.regs.e := rfl
@[simp] theorem setSp_h (v : Word) : (s.setSp v).regs.h = s.regs.h := rfl
@[simp] theorem setSp_l (v : Word) : (s.setSp v).regs.l = s.regs.l := rfl
@[simp] theorem setSp_sp (v : Word) : (s.setSp v).regs.sp = v := rfl
@[simp] theorem setSp_pc (v : Word) : (s.setSp v).regs.pc = s.regs.pc := rfl
@[simp] theorem setSp_getReg (v : Word) (x : Reg8) : (s.setSp v).getReg x = s.getReg x := by cases x <;> rfl

/-! ## `setF` -/

@[simp] theorem setF_ime (v : Byte) : (s.setF v).ime = s.ime := rfl
@[simp] theorem setF_eiDelay (v : Byte) : (s.setF v).eiDelay = s.eiDelay := rfl
@[simp] theorem setF_halted (v : Byte) : (s.setF v).halted = s.halted := rfl
@[simp] theorem setF_stopped (v : Byte) : (s.setF v).stopped = s.stopped := rfl
@[simp] theorem setF_haltBug (v : Byte) : (s.setF v).haltBug = s.haltBug := rfl
@[simp] theorem setF_fault (v : Byte) : (s.setF v).fault = s.fault := rfl
@[simp] theorem setF_regIF (v : Byte) : (s.setF v).regIF = s.regIF := rfl
@[simp] theorem setF_regIE (v : Byte) : (s.setF v).regIE = s.regIE := rfl
@[simp] theorem setF_wram (v : Byte) : (s.setF v).wram = s.wram := rfl
@[simp] theorem setF_hram (v : Byte) : (s.setF v).hram = s.hram := rfl
@[simp] theorem setF_dma (v : Byte) : (s.setF v).dma = s.dma := rfl
@[simp] theorem setF_timer (v : Byte) : (s.setF v).timer = s.timer := rfl
@[simp] theorem setF_joypad (v : Byte) : (s.setF v).joypad = s.joypad := rfl
@[simp] theorem setF_ppu (v : Byte) : (s.setF v).ppu = s.ppu := rfl
@[simp] theorem setF_sound (v : Byte) : (s.setF v).sound = s.sound := rfl
@[simp] theorem setF_cart (v : Byte) : (s.setF v).cart = s.cart := rfl
@[simp] theorem setF_params (v : Byte) : (s.setF v).params = s.params := rfl
@[simp] theorem setF_buttonsIn (v : Byte) : (s.setF v).buttonsIn = s.buttonsIn := rfl
@[simp] theorem setF_cycles (v : Byte) : (s.setF v).cycles = s.cycles := rfl
@[simp] theorem setF_out (v : Byte) : (s.setF v).out = s.out := rfl
@[simp] theorem setF_a (v : Byte) : (s.setF v).regs.a = s.regs.a := rfl
@[simp] theorem setF_f (v : Byte) : (s.setF v).regs.f = v &&& 0xF0 := rfl
@[simp] theorem setF_b (v : Byte) : (s.setF v).regs.b = s.regs.b := rfl
@[simp] theorem setF_c (v : Byte) : (s.setF v).regs.c = s.regs.c := rfl
@[simp] theorem setF_d (v : Byte) : (s.setF v).regs.d = s.regs.d := rfl
@[simp] theorem setF_e (v : Byte) : (s.setF v).regs.e = s.regs.e := rfl
@[simp] theorem setF_h (v : Byte) : (s.setF v).regs.h = s.regs.h := rfl
@[simp] theorem setF_l (v : Byte) : (s.setF v).regs.l = s.regs.l := rfl
@[simp] theorem setF_sp (v : Byte) : (s.setF v).regs.sp = s.regs.sp := rfl
@[simp] theorem setF_pc (v : Byte) : (s.setF v).regs.pc = s.regs.pc := rfl
@[simp] theorem setF_getReg (v : Byte) (x : Reg8) : (s.setF v).getReg x = s.getReg x := by cases x <;> rfl

/-! ## `setFlags` -/

@[simp] theorem setFlags_ime (z n h c : Bool) : (s.setFlags z n h c).ime = s.ime := rfl
@[simp] theorem setFlags_eiDelay (z n h c : Bool) : (s.setFlags z n h c).eiDelay = s.eiDelay := rfl
@[simp] theorem setFlags_halted (z n h c : Bool) : (s.setFlags z n h c).halted = s.halted := rfl
@[simp] theorem setFlags_stopped (z n h c : Bool) : (s.setFlags z n h c).stopped = s.stopped := rfl
@[simp] theorem setFlags_haltBug (z n h c : Bool) : (s.setFlags z n h c).haltBug = s.haltBug := rfl
@[simp] theorem setFlags_fault (z n h c : Bool) : (s.setFlags z n h c).fault = s.fault := rfl
@[simp] theorem setFlags_regIF (z n h c : Bool) : (s.setFlags z n h c).regIF = s.regIF := rfl
@[simp] theorem setFlags_regIE (z n h c : Bool) : (s.setFlags z n h c).regIE = s.regIE := rfl
@[simp] theorem setFlags_wram (z n h c : Bool) : (s.setFlags z n h c).wram = s.wram := rfl
@[simp] theorem setFlags_hram (z n h c : Bool) : (s.setFlags z n h c).hram = s.hram := rfl
@[simp] theorem setFlags_dma (z n h c : Bool) : (s.setFlags z n h c).dma = s.dma := rfl
@[simp] theorem setFlags_timer (z n h c : Bool) : (s.setFlags z n h c).timer = s.timer := rfl
@[simp] theorem setFlags_joypad (z n h c : Bool) : (s.setFlags z n h c).joypad = s.joypad := rfl
@[simp] theorem setFlags_ppu (z n h c : Bool) : (s.setFlags z n h c).ppu = s.ppu := rfl
@[simp] theorem setFlags_sound (z n h c : Bool) : (s.setFlags z n h c).sound = s.sound := rfl
@[simp] theorem setFlags_cart (z n h c : Bool) : (s.setFlags z n h c).cart = s.cart := rfl
@[simp] theorem setFlags_params (z n h c : Bool) : (s.setFlags z n h c).params = s.params := rfl
@[simp] theorem setFlags_buttonsIn (z n h c : Bool) : (s.setFlags z n h c).buttonsIn = s.buttonsIn := rfl
@[simp] theorem setFlags_cycles (z n h c : Bool) : (s.setFlags z n h c).cycles = s.cycles := rfl
@[simp] theorem setFlags_out (z n h c : Bool) : (s.setFlags z n h c).out = s.out := rfl
@[simp] theorem setFlags_a (z n h c : Bool) : (s.setFlags z n h c).regs.a = s.regs.a := rfl
@[simp] theorem setFlags_f (z n h c : Bool) : (s.setFlags z n h c).regs.f = mkF z n h c &&& 0xF0 := rfl
@[simp] theorem setFlags_b (z n h c : Bool) : (s.setFlags z n h c).regs.b = s.regs.b := rfl
@[simp] theorem setFlags_c (z n h c : Bool) : (s.setFlags z n h c).regs.c = s.regs.c := rfl
@[simp] theorem setFlags_d (z n h c : Bool) : (s.setFlags z n h c).regs.d = s.regs.d := rfl
@[simp] theorem setFlags_e (z n h c : Bool) : (s.setFlags z n h c).regs.e = s.regs.e := rfl
@[simp] theorem setFlags_h (z n h c : Bool) : (s.setFlags z n h c).regs.h = s.regs.h := rfl
@[simp] theorem setFlags_l (z n h c : Bool) : (s.setFlags z n h c).regs.l = s.regs.l := rfl
@[simp] theorem setFlags_sp (z n h c : Bool) : (s.setFlags z n h c).regs.sp = s.regs.sp := rfl
@[simp] theorem setFlags_pc (z n h c : Bool) : (s.setFlags z n h c).regs.pc = s.regs.pc := rfl
@[simp] theorem setFlags_getReg (z n h c : Bool) (x : Reg8) :
    (s.setFlags z n h c).getReg x = s.getReg x := by cases x <;> rfl

/-! ## `setResultFlags` -/

@[simp] theorem setResultFlags_ime (r : Result8) : (s.setResultFlags r).ime = s.ime := rfl
@[simp] theorem setResultFlags_eiDelay (r : Result8) : (s.setResultFlags r).eiDelay = s.eiDelay := rfl
@[simp] theorem setResultFlags_halted (r : Result8) : (s.setResultFlags r).halted = s.halted := rfl
@[simp] theorem setResultFlags_stopped (r : Result8) : (s.setResultFlags r).stopped = s.stopped := rfl
@[simp] theorem setResultFlags_haltBug (r : Result8) : (s.setResultFlags r).haltBug = s.haltBug := rfl
@[simp] theorem setResultFlags_fault (r : Result8) : (s.setResultFlags r).fault = s.fault := rfl
@[simp] theorem setResultFlags_regIF (r : Result8) : (s.setResultFlags r).regIF = s.regIF := rfl
@[simp] theorem setResultFlags_regIE (r : Result8) : (s.setResultFlags r).regIE = s.regIE := rfl
@[simp] theorem setResultFlags_wram (r : Result8) : (s.setResultFlags r).wram = s.wram := rfl
@[simp] theorem setResultFlags_hram (r : Result8) : (s.setResultFlags r).hram = s.hram := rfl
@[simp] theorem setResultFlags_dma (r : Result8) : (s.setResultFlags r).dma = s.dma := rfl
@[simp] theorem setResultFlags_timer (r : Result8) : (s.setResultFlags r).timer = s.timer := rfl
@[simp] theorem setResultFlags_joypad (r : Result8) : (s.setResultFlags r).joypad = s.joypad := rfl
@[simp] theorem setResultFlags_ppu (r : Result8) : (s.setResultFlags r).ppu = s.ppu := rfl
@[simp] theorem setResultFlags_sound (r : Result8) : (s.setResultFlags r).sound = s.sound := rfl
@[simp] theorem setResultFlags_cart (r : Result8) : (s.setResultFlags r).cart = s.cart := rfl
@[simp] theorem setResultFlags_params (r : Result8) : (s.setResultFlags r).params = s.params := rfl
@[simp] theorem setResultFlags_buttonsIn (r : Result8) : (s.setResultFlags r).buttonsIn = s.buttonsIn := rfl
@[simp] theorem setResultFlags_cycles (r : Result8) : (s.setResultFlags r).cycles = s.cycles := rfl
@[simp] theorem setResultFlags_out (r : Result8) : (s.setResultFlags r).out = s.out := rfl
@[simp] theorem setResultFlags_a (r : Result8) : (s.setResultFlags r).regs.a = s.regs.a := rfl
@[simp] theorem setResultFlags_f (r : Result8) : (s.setResultFlags r).regs.f = mkF r.z r.n r.h r.c &&& 0xF0 := rfl
@[simp] theorem setResultFlags_b (r : Result8) : (s.setResultFlags r).regs.b = s.regs.b := rfl
@[simp] theorem setResultFlags_c (r : Result8) : (s.setResultFlags r).regs.c = s.regs.c := rfl
@[simp] theorem setResultFlags_d (r : Result8) : (s.setResultFlags r).regs.d = s.regs.d := rfl
@[simp] theorem setResultFlags_e (r : Result8) : (s.setResultFlags r).regs.e = s.regs.e := rfl
@[simp] theorem setResultFlags_h (r : Result8) : (s.setResultFlags r).regs.h = s.regs.h := rfl
@[simp] theorem setResultFlags_l (r : Result8) : (s.setResultFlags r).regs.l = s.regs.l := rfl
@[simp] theorem setResultFlags_sp (r : Result8) : (s.setResultFlags r).regs.sp = s.regs.sp := rfl
@[simp] theorem setResultFlags_pc (r : Result8) : (s.setResultFlags r).regs.pc = s.regs.pc := rfl
@[simp] theorem setResultFlags_getReg (r : Result8) (x : Reg8) :
    (s.setResultFlags r).getReg x = s.getReg x := by cases x <;> rfl

/-! ## `setReg` -/

@[simp] theorem setReg_ime (r : Reg8) (v : Byte) : (s.setReg r v).ime = s.ime := by cases r <;> rfl
@[simp] theorem setReg_eiDelay (r : Reg8) (v : Byte) : (s.setReg r v).eiDelay = s.eiDelay := by cases r <;> rfl
@[simp] theorem setReg_halted (r : Reg8) (v : Byte) : (s.setReg r v).halted = s.halted := by cases r <;> rfl
@[simp] theorem setReg_stopped (r : Reg8) (v : Byte) : (s.setReg r v).stopped = s.stopped := by cases r <;> rfl
@[simp] theorem setReg_haltBug (r : Reg8) (v : Byte) : (s.setReg r v).haltBug = s.haltBug := by cases r <;> rfl
@[simp] theorem setReg_fault (r : Reg8) (v : Byte) : (s.setReg r v).fault = s.fault := by cases r <;> rfl
@[simp] theorem setReg_regIF (r : Reg8) (v : Byte) : (s.setReg r v).regIF = s.regIF := by cases r <;> rfl
@[simp] theorem setReg_regIE (r : Reg8) (v : Byte) : (s.setReg r v).regIE = s.regIE := by cases r <;> rfl
@[simp] theorem setReg_wram (r : Reg8) (v : Byte) : (s.setReg r v).wram = s.wram := by cases r <;> rfl
@[simp] theorem setReg_hram (r : Reg8) (v : Byte) : (s.setReg r v).hram = s.hram := by cases r <;> rfl
@[simp] theorem setReg_dma (r : Reg8) (v : Byte) : (s.setReg r v).dma = s.dma := by cases r <;> rfl
@[simp] theorem setReg_timer (r : Reg8) (v : Byte) : (s.setReg r v).timer = s.timer := by cases r <;> rfl
@[simp] theorem setReg_joypad (r : Reg8) (v : Byte) : (s.setReg r v).joypad = s.joypad := by cases r <;> rfl
@[simp] theorem setReg_ppu (r : Reg8) (v : Byte) : (s.setReg r v).ppu = s.ppu := by cases r <;> rfl
@[simp] theorem setReg_sound (r : Reg8) (v : Byte) : (s.setReg r v).sound = s.sound := by cases r <;> rfl
@[simp] theorem setReg_cart (r : Reg8) (v : Byte) : (s.setReg r v).cart = s.cart := by cases r <;> rfl
@[simp] theorem setReg_params (r : Reg8) (v : Byte) : (s.setReg r v).params = s.params := by cases r <;> rfl
@[simp] theorem setReg_buttonsIn (r : Reg8) (v : Byte) : (s.setReg r v).buttonsIn = s.buttonsIn := by cases r <;> rfl
@[simp] theorem setReg_cycles (r : Reg8) (v : Byte) : (s.setReg r v).cycles = s.cycles := by cases r <;> rfl
@[simp] theorem setReg_out (r : Reg8) (v : Byte) : (s.setReg r v).out = s.out := by cases r <;> rfl
@[simp] theorem setReg_f (r : Reg8) (v : Byte) : (s.setReg r v).regs.f = s.regs.f := by cases r <;> rfl
@[simp] theorem setReg_sp (r : Reg8) (v : Byte) : (s.setReg r v).regs.sp = s.regs.sp := by cases r <;> rfl
@[simp] theorem setReg_pc (r : Reg8) (v : Byte) : (s.setReg r v).regs.pc = s.regs.pc := by cases r <;> rfl
@[simp] theorem setReg_getReg_same (r : Reg8) (v : Byte) : (s.setReg r v).getReg r = v := by cases r <;> rfl
theorem setReg_getReg_other (r : Reg8) (v : Byte) (x : Reg8) (hx : x ≠ r) : (s.setReg r v).getReg x = s.getReg x := by
  cases r <;> cases x <;> first | rfl | exact absurd rfl hx

/-! ## `setPair` -/

@[simp] theorem setPair_ime (p : Pair16) (v : Word) : (s.setPair p v).ime = s.ime := by cases p <;> rfl
@[simp] theorem setPair_eiDelay (p : Pair16) (v : Word) : (s.setPair p v).eiDelay = s.eiDelay := by cases p <;> rfl
@[simp] theorem setPair_halted (p : Pair16) (v : Word) : (s.setPair p v).halted = s.halted := by cases p <;> rfl
@[simp] theorem setPair_stopped (p : Pair16) (v : Word) : (s.setPair p v).stopped = s.stopped := by cases p <;> rfl
@[simp] theorem setPair_haltBug (p : Pair16) (v : Word) : (s.setPair p v).haltBug = s.haltBug := by cases p <;> rfl
@[simp] theorem setPair_fault (p : Pair16) (v : Word) : (s.setPair p v).fault = s.fault := by cases p <;> rfl
@[simp] theorem setPair_regIF (p : Pair16) (v : Word) : (s.setPair p v).regIF = s.regIF := by cases p <;> rfl
@[simp] theorem setPair_regIE (p : Pair16) (v : Word) : (s.setPair p v).regIE = s.regIE := by cases p <;> rfl
@[simp] theorem setPair_wram (p : Pair16) (v : Word) : (s.setPair p v).wram = s.wram := by cases p <;> rfl
@[simp] theorem setPair_hram (p : Pair16) (v : Word) : (s.setPair p v).hram = s.hram := by cases p <;> rfl
@[simp] theorem setPair_dma (p : Pair16) (v : Word) : (s.setPair p v).dma = s.dma := by cases p <;> rfl
@[simp] theorem setPair_timer (p : Pair16) (v : Word) : (s.setPair p v).timer = s.timer := by cases p <;> rfl
@[simp] theorem setPair_joypad (p : Pair16) (v : Word) : (s.setPair p v).joypad = s.joypad := by cases p <;> rfl
@[simp] theorem setPair_ppu (p : Pair16) (v : Word) : (s.setPair p v).ppu = s.ppu := by cases p <;> rfl
@[simp] theorem setPair_sound (p : Pair16) (v : Word) : (s.setPair p v).sound = s.sound := by cases p <;> rfl
@[simp] theorem setPair_cart (p : Pair16) (v : Word) : (s.setPair p v).cart = s.cart := by cases p <;> rfl
@[simp] theorem setPair_params (p : Pair16) (v : Word) : (s.setPair p v).params = s.params := by cases p <;> rfl
@[simp] theorem setPair_buttonsIn (p : Pair16) (v : Word) :
    (s.setPair p v).buttonsIn = s.buttonsIn := by cases p <;> rfl
@[simp] theorem setPair_cycles (p : Pair16) (v : Word) : (s.setPair p v).cycles = s.cycles := by cases p <;> rfl
@[simp] theorem setPair_out (p : Pair16) (v : Word) : (s.setPair p v).out = s.out := by cases p <;> rfl
@[simp] theorem setPair_a (p : Pair16) (v : Word) : (s.setPair p v).regs.a = s.regs.a := by cases p <;> rfl
@[simp] theorem setPair_f (p : Pair16) (v : Word) : (s.setPair p v).regs.f = s.regs.f := by cases p <;> rfl
@[simp] theorem setPair_pc (p : Pair16) (v : Word) : (s.setPair p v).regs.pc = s.regs.pc := by cases p <;> rfl

/-! ## `setStackPair` -/

@[simp] theorem setStackPair_ime (q : StackPair) (v : Word) : (s.setStackPair q v).ime = s.ime := by cases q <;> rfl
@[simp] theorem setStackPair_eiDelay (q : StackPair) (v : Word) :
    (s.setStackPair q v).eiDelay = s.eiDelay := by cases q <;> rfl
@[simp] theorem setStackPair_halted (q : StackPair) (v : Word) :
    (s.setStackPair q v).halted = s.halted := by cases q <;> rfl
@[simp] theorem setStackPair_stopped (q : StackPair) (v : Word) :
    (s.setStackPair q v).stopped = s.stopped := by cases q <;> rfl
@[simp] theorem setStackPair_haltBug (q : StackPair) (v : Word) :
    (s.setStackPair q v).haltBug = s.haltBug := by cases q <;> rfl
@[simp] theorem setStackPair_fault (q : StackPair) (v : Word) :
    (s.setStackPair q v).fault = s.fault := by cases q <;> rfl
@[simp] theorem setStackPair_regIF (q : StackPair) (v : Word) :
    (s.setStackPair q v).regIF = s.regIF := by cases q <;> rfl
@[simp] theorem setStackPair_regIE (q : StackPair) (v : Word) :
    (s.setStackPair q v).regIE = s.regIE := by cases q <;> rfl
@[simp] theorem setStackPair_wram (q : StackPair) (v : Word) :
    (s.setStackPair q v).wram = s.wram := by cases q <;> rfl
@[simp] theorem setStackPair_hram (q : StackPair) (v : Word) :
    (s.setStackPair q v).hram = s.hram := by cases q <;> rfl
@[simp] theorem setStackPair_dma (q : StackPair) (v : Word) : (s.setStackPair q v).dma = s.dma := by cases q <;> rfl
@[simp] theorem setStackPair_timer (q : StackPair) (v : Word) :
    (s.setStackPair q v).timer = s.timer := by cases q <;> rfl
@[simp] theorem setStackPair_joypad (q : StackPair) (v : Word) :
    (s.setStackPair q v).joypad = s.joypad := by cases q <;> rfl
@[simp] theorem setStackPair_ppu (q : StackPair) (v : Word) : (s.setStackPair q v).ppu = s.ppu := by cases q <;> rfl
@[simp] theorem setStackPair_sound (q : StackPair) (v : Word) :
    (s.setStackPair q v).sound = s.sound := by cases q <;> rfl
@[simp] theorem setStackPair_cart (q : StackPair) (v : Word) :
    (s.setStackPair q v).cart = s.cart := by cases q <;> rfl
@[simp] theorem setStackPair_params (q : StackPair) (v : Word) :
    (s.setStackPair q v).params = s.params := by cases q <;> rfl
@[simp] theorem setStackPair_buttonsIn (q : StackPair) (v : Word) :
    (s.setStackPair q v).buttonsIn = s.buttonsIn := by cases q <;> rfl
@[simp] theorem setStackPair_cycles (q : StackPair) (v : Word) :
    (s.setStackPair q v).cycles = s.cycles := by cases q <;> rfl
@[simp] theorem setStackPair_out (q : StackPair) (v : Word) : (s.setStackPair q v).out = s.out := by cases q <;> rfl
@[simp] theorem setStackPair_sp (q : StackPair) (v : Word) :
    (s.setStackPair q v).regs.sp = s.regs.sp := by cases q <;> rfl
@[simp] theorem setStackPair_pc (q : StackPair) (v : Word) :
    (s.setStackPair q v).regs.pc = s.regs.pc := by cases q <;> rfl

/-! ## Bytes and words -/

@[simp] theorem ofBytes_hi (x y : Byte) : (Word.ofBytes x y).hi = x := by
  apply BitVec.eq_of_toNat_eq
  have := x.isLt; have := y.isLt
  simp only [Word.ofBytes, Word.hi, BitVec.extractLsb'_toNat, BitVec.toNat_append, Nat.shiftLeft_eq, Nat.shiftRight_eq_div_pow]
  rw [← Nat.shiftLeft_eq, ← Nat.shiftLeft_add_eq_or_of_lt y.isLt, Nat.shiftLeft_eq]
  omega

@[simp] theorem ofBytes_lo (x y : Byte) : (Word.ofBytes x y).lo = y := by
  apply BitVec.eq_of_toNat_eq
  have := x.isLt; have := y.isLt
  simp only [Word.ofBytes, Word.lo, BitVec.extractLsb'_toNat, BitVec.toNat_append, Nat.shiftRight_zero]
  rw [← Nat.shiftLeft_add_eq_or_of_lt y.isLt, Nat.shiftLeft_eq]
  omega

@[simp] theorem ofBytes_hi_lo (v : Word) : Word.ofBytes v.hi v.lo = v := by
  apply BitVec.eq_of_toNat_eq
  have := v.isLt
  simp only [Word.ofBytes, Word.hi, Word.lo, BitVec.extractLsb'_toNat, BitVec.toNat_append, Nat.shiftRight_eq_div_pow]
  rw [← Nat.shiftLeft_add_eq_or_of_lt (by omega), Nat.shiftLeft_eq]
  omega

/-- A pair reads the two registers that a write of it wrote. -/
@[simp] theorem setPair_getPair_same (p : Pair16) (v : Word) : (s.setPair p v).getPair p = v := by
  cases p <;> simp [State.setPair, State.getPair, State.hl, State.setSp]

/-! ## The flags byte -/

@[simp] theorem mkF_mask (z n h c : Bool) : mkF z n h c &&& 0xF0 = mkF z n h c := by
  cases z <;> cases n <;> cases h <;> cases c <;> rfl

@[simp] theorem mkF_low (z n h c : Bool) : mkF z n h c &&& 0x0F = 0 := by
  cases z <;> cases n <;> cases h <;> cases c <;> rfl

@[simp] theorem mkF_z (z n h c : Bool) : Byte.bit (mkF z n h c) 7 = z := by
  cases z <;> cases n <;> cases h <;> cases c <;> rfl

@[simp] theorem mkF_n (z n h c : Bool) : Byte.bit (mkF z n h c) 6 = n := by
  cases z <;> cases n <;> cases h <;> cases c <;> rfl

@[simp] theorem mkF_h (z n h c : Bool) : Byte.bit (mkF z n h c) 5 = h := by
  cases z <;> cases n <;> cases h <;> cases c <;> rfl

@[simp] theorem mkF_c (z n h c : Bool) : Byte.bit (mkF z n h c) 4 = c := by
  cases z <;> cases n <;> cases h <;> cases c <;> rfl

/-- Masking a byte with 0xF0 clears bits 3..0. -/
@[simp] theorem mask_low (v : Byte) : v &&& 0xF0 &&& 0x0F = 0 := by
  rw [BitVec.and_assoc]; exact BitVec.and_zero

end Sys2Proof.Machine
end

