-- ==== Sys2Proof/Laws/Bus.lean ====
section
/-! SUPPORT. What a bus write can change, and what it cannot. -/

namespace Sys2Proof.Machine

/-! ## Reads depend on the memory system only -/

/-- A read sees the memories and devices, not the CPU: `t` may differ from `s` in everything no address maps. -/
theorem memRead_congr (s : State) (regs : Regs) (ime : Bool) (eiDelay : Fin 3) (halted stopped haltBug : Bool)
    (fault : Option Fault) (params : Params) (buttonsIn : List Byte) (cycles : Nat) (out : List Output) (a : Word) :
    memRead { s with
        regs := regs, ime := ime, eiDelay := eiDelay, halted := halted, stopped := stopped, haltBug := haltBug,
        fault := fault, params := params, buttonsIn := buttonsIn, cycles := cycles, out := out } a = memRead s a := by
  unfold memRead
  cases region a <;> rfl

@[simp] theorem memRead_setPc (s : State) (v a : Word) : memRead (s.setPc v) a = memRead s a := memRead_congr s ..
@[simp] theorem memRead_setSp (s : State) (v a : Word) : memRead (s.setSp v) a = memRead s a := memRead_congr s ..
@[simp] theorem memRead_setF (s : State) (v : Byte) (a : Word) : memRead (s.setF v) a = memRead s a := memRead_congr s ..

@[simp] theorem memRead_setFlags (s : State) (z n h c : Bool) (a : Word) :
    memRead (s.setFlags z n h c) a = memRead s a := memRead_congr s ..

@[simp] theorem memRead_setResultFlags (s : State) (r : Result8) (a : Word) :
    memRead (s.setResultFlags r) a = memRead s a := memRead_congr s ..

@[simp] theorem memRead_setReg (s : State) (r : Reg8) (v : Byte) (a : Word) :
    memRead (s.setReg r v) a = memRead s a := by cases r <;> exact memRead_congr s ..

@[simp] theorem memRead_setPair (s : State) (p : Pair16) (v a : Word) :
    memRead (s.setPair p v) a = memRead s a := by cases p <;> exact memRead_congr s ..

@[simp] theorem memRead_setStackPair (s : State) (q : StackPair) (v a : Word) :
    memRead (s.setStackPair q v) a = memRead s a := by cases q <;> exact memRead_congr s ..

/-! ## The address map -/

/-- The offsets of the storage regions lie within their memories (R82, R40). -/
def Region.inBounds : Region → Prop
  | .rom a => a < 0x8000
  | .vram off => off < 8192
  | .cartRam off => off < 8192
  | .wram off => off < 8192
  | .oam off => off < 160
  | .waveRam off => off < 16
  | .hram off => off < 127
  | _ => True

theorem ioRegion_inBounds (k : Nat) : (ioRegion k).inBounds := by
  unfold ioRegion
  split <;> try exact True.intro
  split
  · simp only [Region.inBounds]; omega
  · exact True.intro

theorem region_inBounds (a : Word) : (region a).inBounds := by
  have := a.isLt
  unfold region
  simp only
  repeat' split
  all_goals first
    | exact ioRegion_inBounds _
    | exact True.intro
    | (simp only [Region.inBounds]; omega)

/-! ## What a write changes -/

/-- The DMA's loop writes OAM and nothing else. -/
theorem foldl_dmaByte (v : Byte) (l : List Nat) (s : State) :
    ∃ m, l.foldl (dmaByte v) s = { s with ppu := { s.ppu with oam := m } } := by
  induction l generalizing s with
  | nil => exact ⟨s.ppu.oam, rfl⟩
  | cons i l ih =>
    obtain ⟨m, hm⟩ := ih (dmaByte v s i)
    exact ⟨m, by rw [List.foldl_cons, hm]; rfl⟩

/-- A DMA changes the DMA register and OAM, and nothing else (R110). -/
theorem writeDma_eq (v : Byte) (s : State) :
    ∃ m, writeDma v s = { s with dma := v, ppu := { s.ppu with oam := m } } := by
  obtain ⟨m, hm⟩ := foldl_dmaByte v (List.range 160) { s with dma := v }
  exact ⟨m, hm⟩

theorem foldl_dmaByte_oam_wf (v : Byte) (l : List Nat) (hl : ∀ i ∈ l, i < 160) (s : State)
    (h : Memory.wf 160 s.ppu.oam) : Memory.wf 160 (l.foldl (dmaByte v) s).ppu.oam := by
  induction l generalizing s with
  | nil => exact h
  | cons i l ih =>
    exact ih (fun j hj => hl j (by simp [hj])) _ (Cells.wf_set h (hl i (by simp)) _)

theorem writeDma_oam_wf (v : Byte) (s : State) (h : Memory.wf 160 s.ppu.oam) :
    Memory.wf 160 (writeDma v s).ppu.oam :=
  foldl_dmaByte_oam_wf v _ (fun _ => List.mem_range.mp) _ h

/-- A bus write changes nothing of the CPU, of the parameters or of the model's own fields. -/
theorem writeRegion_cpu (s : State) (v : Byte) (x : Region) :
    ∃ regIF regIE wram hram dma timer joypad ppu sound cart,
      writeRegion s v x = { s with
        regIF := regIF, regIE := regIE, wram := wram, hram := hram, dma := dma, timer := timer, joypad := joypad,
        ppu := ppu, sound := sound, cart := cart } := by
  cases x with
  | dma => obtain ⟨m, hm⟩ := writeDma_eq v s; exact ⟨_, _, _, _, _, _, _, _, _, _, hm⟩
  | _ => exact ⟨_, _, _, _, _, _, _, _, _, _, rfl⟩

section
variable (a : Word) (v : Byte) (s : State)

theorem memWrite_cpu :
    ∃ regIF regIE wram hram dma timer joypad ppu sound cart,
      memWrite a v s = { s with
        regIF := regIF, regIE := regIE, wram := wram, hram := hram, dma := dma, timer := timer, joypad := joypad,
        ppu := ppu, sound := sound, cart := cart } := writeRegion_cpu s v (region a)

@[simp] theorem memWrite_regs : (memWrite a v s).regs = s.regs := by
  obtain ⟨_, _, _, _, _, _, _, _, _, _, h⟩ := memWrite_cpu a v s; rw [h]
@[simp] theorem memWrite_ime : (memWrite a v s).ime = s.ime := by
  obtain ⟨_, _, _, _, _, _, _, _, _, _, h⟩ := memWrite_cpu a v s; rw [h]
@[simp] theorem memWrite_eiDelay : (memWrite a v s).eiDelay = s.eiDelay := by
  obtain ⟨_, _, _, _, _, _, _, _, _, _, h⟩ := memWrite_cpu a v s; rw [h]
@[simp] theorem memWrite_halted : (memWrite a v s).halted = s.halted := by
  obtain ⟨_, _, _, _, _, _, _, _, _, _, h⟩ := memWrite_cpu a v s; rw [h]
@[simp] theorem memWrite_stopped : (memWrite a v s).stopped = s.stopped := by
  obtain ⟨_, _, _, _, _, _, _, _, _, _, h⟩ := memWrite_cpu a v s; rw [h]
@[simp] theorem memWrite_haltBug : (memWrite a v s).haltBug = s.haltBug := by
  obtain ⟨_, _, _, _, _, _, _, _, _, _, h⟩ := memWrite_cpu a v s; rw [h]
@[simp] theorem memWrite_fault : (memWrite a v s).fault = s.fault := by
  obtain ⟨_, _, _, _, _, _, _, _, _, _, h⟩ := memWrite_cpu a v s; rw [h]
@[simp] theorem memWrite_params : (memWrite a v s).params = s.params := by
  obtain ⟨_, _, _, _, _, _, _, _, _, _, h⟩ := memWrite_cpu a v s; rw [h]
@[simp] theorem memWrite_buttonsIn : (memWrite a v s).buttonsIn = s.buttonsIn := by
  obtain ⟨_, _, _, _, _, _, _, _, _, _, h⟩ := memWrite_cpu a v s; rw [h]
@[simp] theorem memWrite_cycles : (memWrite a v s).cycles = s.cycles := by
  obtain ⟨_, _, _, _, _, _, _, _, _, _, h⟩ := memWrite_cpu a v s; rw [h]
@[simp] theorem memWrite_out : (memWrite a v s).out = s.out := by
  obtain ⟨_, _, _, _, _, _, _, _, _, _, h⟩ := memWrite_cpu a v s; rw [h]
@[simp] theorem memWrite_getReg (r : Reg8) : (memWrite a v s).getReg r = s.getReg r := by
  cases r <;> simp [State.getReg]

end

/-- The memory system of `s` under everything else of `c`. -/
def State.underCpu (c s : State) : State :=
  { c with
      regIF := s.regIF, regIE := s.regIE, wram := s.wram, hram := s.hram, dma := s.dma, timer := s.timer,
      joypad := s.joypad, ppu := s.ppu, sound := s.sound, cart := s.cart }

@[simp] theorem memRead_underCpu (c s : State) (a : Word) : memRead (c.underCpu s) a = memRead s a := by
  unfold memRead
  cases region a <;> rfl

theorem dmaByte_underCpu (c s : State) (v : Byte) (i : Nat) :
    dmaByte v (c.underCpu s) i = c.underCpu (dmaByte v s i) := by
  unfold dmaByte
  rw [memRead_underCpu]
  rfl

theorem foldl_dmaByte_underCpu (c : State) (v : Byte) (l : List Nat) (s : State) :
    l.foldl (dmaByte v) (c.underCpu s) = c.underCpu (l.foldl (dmaByte v) s) := by
  induction l generalizing s with
  | nil => rfl
  | cons i l ih => rw [List.foldl_cons, List.foldl_cons, dmaByte_underCpu, ih]

/-- A bus write depends on the memory system only, and changes it only. -/
theorem memWrite_underCpu (c s : State) (a : Word) (v : Byte) :
    memWrite a v (c.underCpu s) = c.underCpu (memWrite a v s) := by
  unfold memWrite
  cases region a with
  | dma => exact foldl_dmaByte_underCpu c v _ { s with dma := v }
  | _ => rfl

section
variable (a : Word) (v : Byte) (s : State)

/-- The memory system that a write leaves, under the rest of the state written to. -/
theorem memWrite_eq : memWrite a v s = s.underCpu (memWrite a v s) := memWrite_underCpu s s a v

@[simp] theorem memWrite_setHaltBug (b : Bool) :
    memWrite a v { s with haltBug := b } = { memWrite a v s with haltBug := b } := by
  refine (memWrite_underCpu { s with haltBug := b } s a v).trans ?_
  conv_rhs => rw [memWrite_eq]
  rfl

@[simp] theorem memWrite_setSp (w : Word) : memWrite a v (s.setSp w) = (memWrite a v s).setSp w := by
  refine (memWrite_underCpu (s.setSp w) s a v).trans ?_
  conv_rhs => rw [memWrite_eq]
  rfl

@[simp] theorem memWrite_setInterrupts (i : Bool) (n : Fin 3) (b : Bool) :
    memWrite a v { s with ime := i, eiDelay := n, haltBug := b } =
      { memWrite a v s with ime := i, eiDelay := n, haltBug := b } := by
  refine (memWrite_underCpu { s with ime := i, eiDelay := n, haltBug := b } s a v).trans ?_
  conv_rhs => rw [memWrite_eq]
  rfl

end

end Sys2Proof.Machine
end

