-- ==== Sys2Proof/Laws/Frame.lean ====
section
/-! SUPPORT. The frame of a bus write: an address that `storeAffects` does not name reads as before. -/

namespace Sys2Proof.Machine

/-! ## The cartridge -/

theorem writeControl_noBanking (c : Cart) (h : c.variant = .noBanking) (a : Nat) (v : Byte) : c.writeControl a v = c := by
  unfold Cart.writeControl; rw [h]

/-- A write to ROM space changes the bank-controller registers only (R122, R125, R127). -/
theorem writeControl_frame (c : Cart) (a : Nat) (v : Byte) :
    (c.writeControl a v).rom = c.rom ∧ (c.writeControl a v).variant = c.variant ∧
    (c.writeControl a v).ramSize = c.ramSize ∧ (c.writeControl a v).ram = c.ram := by
  unfold Cart.writeControl Cart.writeControlA Cart.writeControlB
  repeat' split
  all_goals exact ⟨rfl, rfl, rfl, rfl⟩

/-- A write to cartridge RAM changes its bytes only. -/
theorem writeRam_frame (c : Cart) (off : Nat) (v : Byte) : ∃ m, c.writeRam off v = { c with ram := m } := by
  unfold Cart.writeRam
  split
  · exact ⟨_, rfl⟩
  · exact ⟨c.ram, rfl⟩

theorem readRom_low (c : Cart) (a : Nat) (h : a < 0x4000) : c.readRom a = romByte c.rom a := by
  unfold Cart.readRom Cart.romOffset
  rw [if_pos h]

/-! ## The sound registers -/

/-- The sound registers whose write can switch a channel or the master enable (R622). -/
def SoundReg.switches : SoundReg → Bool
  | .nr12 | .nr22 | .nr30 | .nr42 | .nr14 | .nr24 | .nr34 | .nr44 | .nr52 => true
  | _ => false

theorem soundWrite_waveRam (x : Sound) (r : SoundReg) (v : Byte) : (x.write r v).waveRam = x.waveRam := by
  cases r <;> rfl

theorem soundWrite_regs (x : Sound) (r : SoundReg) (v : Byte) : (x.write r v).regs = x.regs.store r v := by
  cases r <;> rfl

theorem soundRead_write_other (x : Sound) (r q : SoundReg) (v : Byte) (h : q ≠ r)
    (h52 : q = .nr52 → r.switches = false) : (x.write r v).read q = x.read q := by
  cases q with
  | nr52 =>
    have := h52 rfl
    cases r <;> first | rfl | cases this
  | _ => all_goals (cases r <;> first | rfl | exact absurd rfl h)

/-! ## The bus -/

theorem foldl_dmaByte_oam_other (v : Byte) (l : List Nat) (s : State) (off : Nat) (h : off ∉ l) :
    Cells.get (l.foldl (dmaByte v) s).ppu.oam off = Cells.get s.ppu.oam off := by
  induction l generalizing s with
  | nil => rfl
  | cons i l ih =>
    simp only [List.mem_cons, not_or] at h
    rw [List.foldl_cons, ih _ h.2]
    exact Cells.get_set_other _ _ h.1

theorem readRegion_writeRegion_other (s : State) (v : Byte) (x y : Region) (h : writeAffects s x y = false) :
    readRegion (writeRegion s v x) y = readRegion s y := by
  cases x with
  | rom a =>
    by_cases hv : s.cart.variant = .noBanking
    · show readRegion { s with cart := s.cart.writeControl a v } y = _
      rw [writeControl_noBanking _ hv]
    · obtain ⟨hrom, hvar, hsize, hram⟩ := writeControl_frame s.cart a v
      cases y with
      | rom b =>
        have hb : b < 0x4000 := by simp [writeAffects, hv] at h; omega
        show (s.cart.writeControl a v).readRom b = s.cart.readRom b
        rw [readRom_low _ _ hb, readRom_low _ _ hb, hrom]
      | cartRam off => simp [writeAffects, hv] at h
      | _ => rfl
  | cartRam i =>
    obtain ⟨m, hm⟩ := writeRam_frame s.cart i v
    cases y with
    | cartRam j =>
      show (s.cart.writeRam i v).readRam j = s.cart.readRam j
      simp only [Cart.writeRam, Cart.readRam]
      cases hi : s.cart.ramOffset i with
      | none => rfl
      | some k =>
        have hj : s.cart.ramOffset j ≠ some k := by
          intro hj; simp [writeAffects, hi, hj] at h
        show (match s.cart.ramOffset j with | some k' => Cells.get (Cells.set s.cart.ram k v) k' | none => 0) = _
        cases hk : s.cart.ramOffset j with
        | none => rfl
        | some k' => exact Cells.get_set_other _ _ fun e => hj (by rw [hk, e])
    | rom b =>
      show (s.cart.writeRam i v).readRom b = s.cart.readRom b
      rw [hm]; rfl
    | _ => rfl
  | dma =>
    cases y with
    | oam off =>
      have hoff : ¬ off < 160 := by simpa [writeAffects] using h
      exact foldl_dmaByte_oam_other v _ _ off (by simpa using hoff)
    | dma => simp [writeAffects] at h
    | _ =>
      obtain ⟨m, hm⟩ := writeDma_eq v s
      show readRegion (writeDma v s) _ = _
      rw [hm]; rfl
  | sound r =>
    cases y with
    | sound q =>
      refine soundRead_write_other s.sound r q v ?_ ?_
      · rintro rfl; cases q <;> simp [writeAffects] at h
      · rintro rfl; cases r <;> simp_all [writeAffects, SoundReg.switches]
    | waveRam off => exact congrArg (Cells.get · off) (soundWrite_waveRam s.sound r v)
    | _ => rfl
  | vram i =>
    cases y with
    | vram j => exact Cells.get_set_other _ _ (by rintro rfl; simp [writeAffects] at h)
    | _ => rfl
  | wram i =>
    cases y with
    | wram j => exact Cells.get_set_other _ _ (by rintro rfl; simp [writeAffects] at h)
    | _ => rfl
  | oam i =>
    cases y with
    | oam j => exact Cells.get_set_other _ _ (by rintro rfl; simp [writeAffects] at h)
    | _ => rfl
  | waveRam i =>
    cases y with
    | waveRam j => exact Cells.get_set_other _ _ (by rintro rfl; simp [writeAffects] at h)
    | _ => rfl
  | hram i =>
    cases y with
    | hram j => exact Cells.get_set_other _ _ (by rintro rfl; simp [writeAffects] at h)
    | _ => rfl
  | ly => rfl
  | unmapped => rfl
  | _ => all_goals (cases y <;> first | rfl | simp [writeAffects] at h)

/-- An address that a write cannot affect reads as before. -/
theorem memRead_memWrite_other (s : State) (a b : Word) (v : Byte) (h : storeAffects s a b = false) :
    memRead (memWrite a v s) b = memRead s b := readRegion_writeRegion_other s v _ _ h

/-- What a write can affect depends on the cartridge alone. -/
theorem storeAffects_congr (s t : State) (h : t.cart = s.cart) (a b : Word) : storeAffects t a b = storeAffects s a b := by
  unfold storeAffects writeAffects
  rw [h]

end Sys2Proof.Machine
end

