-- ==== Sys2Proof/Laws/Devices.lean ====
section
/-! SUPPORT. What the devices' advances keep, part by part of the invariant. -/

namespace Sys2Proof.Machine

/-! ## Requests and the joypad -/

@[simp] theorem reqIf_regs (b : Bool) (i : Nat) (s : State) : (reqIf b i s).regs = s.regs := by cases b <;> rfl
@[simp] theorem reqIf_ppu (b : Bool) (i : Nat) (s : State) : (reqIf b i s).ppu = s.ppu := by cases b <;> rfl

/-- A request changes IF only. -/
theorem reqIf_eq (b : Bool) (i : Nat) (s : State) : ∃ f, reqIf b i s = { s with regIF := f } := by
  cases b
  · exact ⟨s.regIF, rfl⟩
  · exact ⟨_, rfl⟩

/-- Polling the buttons changes the joypad, IF and the waiting masks only. -/
theorem pollButtons_eq (s : State) :
    ∃ f j l, pollButtons s = { s with regIF := f, joypad := j, buttonsIn := l } := by
  unfold pollButtons
  split
  · exact ⟨s.regIF, s.joypad, s.buttonsIn, rfl⟩
  · next mask rest _ =>
    obtain ⟨f, hf⟩ := reqIf_eq (mask &&& ~~~s.joypad.buttons != 0) 4
      { s with buttonsIn := rest, joypad := { s.joypad with buttons := mask } }
    exact ⟨f, { s.joypad with buttons := mask }, rest, hf⟩

/-! ## The timer -/

theorem timerTick_divSub (t : Timer) : t.tick.divSub = t.divSub := by unfold Timer.tick; split <;> rfl

theorem timerTick_iterate_divSub (k : Nat) (t : Timer) : (Timer.tick^[k] t).divSub = t.divSub := by
  induction k generalizing t with
  | zero => rfl
  | succ k ih => rw [Function.iterate_succ_apply, ih, timerTick_divSub]

theorem advanceTima_divSub (n : Nat) (t : Timer) : (t.advanceTima n).divSub = t.divSub := by
  unfold Timer.advanceTima
  split
  · rw [timerTick_iterate_divSub]
  · rfl

/-- The timer's advance changes the timer and IF only, and leaves `div_sub` below 256. -/
theorem timerAdvance_eq (n : Nat) (s : State) :
    ∃ f t, timerAdvance n s = { s with regIF := f, timer := t } ∧ t.divSub < 256 := by
  unfold timerAdvance resolveOverflow
  split
  · refine ⟨_, _, rfl, ?_⟩
    rw [advanceTima_divSub]
    exact Nat.mod_lt _ (by omega)
  · refine ⟨s.regIF, _, rfl, ?_⟩
    rw [advanceTima_divSub]
    exact Nat.mod_lt _ (by omega)

/-! ## Rendering -/

/-- What rendering keeps: every field but the frame buffer and `bg_index`, whose forms it keeps. -/
def RenderKeeps (p q : Ppu) : Prop :=
  q = { p with bgIndex := q.bgIndex, fb := q.fb } ∧
  (Cells.Wf 160 p.bgIndex → Cells.Wf 160 q.bgIndex) ∧ (Cells.Wf 23040 p.fb → Cells.Wf 23040 q.fb)

theorem RenderKeeps.refl (p : Ppu) : RenderKeeps p p := ⟨rfl, id, id⟩

theorem RenderKeeps.trans {p q r : Ppu} (h : RenderKeeps p q) (k : RenderKeeps q r) : RenderKeeps p r := by
  refine ⟨?_, k.2.1 ∘ h.2.1, k.2.2 ∘ h.2.2⟩
  rw [k.1, h.1]

theorem renderKeeps_foldl {α : Type} (f : Ppu → α → Ppu) (l : List α) (h : ∀ x ∈ l, ∀ p, RenderKeeps p (f p x)) (p : Ppu) :
    RenderKeeps p (l.foldl f p) := by
  induction l generalizing p with
  | nil => exact .refl p
  | cons x l ih => exact (h x (by simp) p).trans (ih (fun y hy => h y (by simp [hy])) _)

theorem setPixel_keeps (ly : Byte) (hly : ly.toNat < 144) (px : Nat) (hpx : px < 160) (v : BitVec 2) (p : Ppu) :
    RenderKeeps p (p.setPixel ly px v) :=
  ⟨rfl, id, fun h => Cells.wf_set h (by omega) v⟩

theorem renderBgPixel_keeps (ly : Byte) (hly : ly.toNat < 144) (px : Nat) (hpx : px < 160) (p : Ppu) :
    RenderKeeps p (renderBgPixel ly p px) :=
  ⟨rfl, fun h => Cells.wf_set h hpx _, fun h => Cells.wf_set h (by omega) _⟩

theorem renderSpritePixel_keeps (q : Params) (ly : Byte) (hly : ly.toNat < 144) (n row col : Nat) (p : Ppu) :
    RenderKeeps p (renderSpritePixel q ly n row p col) := by
  unfold renderSpritePixel
  extract_lets attr px tileRow c
  split
  · exact .refl p
  · split
    · exact .refl p
    · split
      · exact .refl p
      · exact setPixel_keeps ly hly px.toNat (by omega) _ p

theorem renderSprite_keeps (q : Params) (ly : Byte) (hly : ly.toNat < 144) (n : Nat) (p : Ppu) :
    RenderKeeps p (renderSprite q ly p n) := by
  unfold renderSprite
  split
  · exact renderKeeps_foldl _ _ (fun col _ p => renderSpritePixel_keeps q ly hly n _ col p) p
  · exact .refl p

/-- Rendering a visible line keeps everything but the frame buffer and `bg_index`. -/
theorem renderLine_keeps (q : Params) (ly : Byte) (hly : ly.toNat < 144) (p : Ppu) : RenderKeeps p (renderLine q ly p) := by
  have bg := renderKeeps_foldl (renderBgPixel ly) (List.range 160)
    (fun px hpx p => renderBgPixel_keeps ly hly px (List.mem_range.mp hpx) p) p
  unfold renderLine
  simp only
  split
  · exact bg.trans (renderKeeps_foldl _ _ (fun n _ p => renderSprite_keeps q ly hly n p) _)
  · exact bg

/-! ## The scanline state machine -/

/-- The memories of the picture unit keep their forms. -/
def Ppu.memoriesOk (p : Ppu) : Prop :=
  Memory.wf 8192 p.vram ∧ Memory.wf 160 p.oam ∧ Cells.Wf 160 p.bgIndex ∧ Cells.Wf 23040 p.fb

/-- A loop of turns that neither read nor write `mode_clock` keeps any value of it. -/
theorem foldl_modeClock {α : Type} (m : Nat) (f : Ppu → α → Ppu)
    (hf : ∀ p x, f { p with modeClock := m } x = { f p x with modeClock := m }) (l : List α) (p : Ppu) :
    l.foldl f { p with modeClock := m } = { l.foldl f p with modeClock := m } := by
  induction l generalizing p with
  | nil => rfl
  | cons x l ih => rw [List.foldl_cons, hf, ih]; rfl

theorem renderSpritePixel_modeClock (q : Params) (ly : Byte) (n row m : Nat) (p : Ppu) (col : Nat) :
    renderSpritePixel q ly n row { p with modeClock := m } col = { renderSpritePixel q ly n row p col with modeClock := m } := by
  unfold renderSpritePixel
  simp only [apply_ite (fun p : Ppu => ({ p with modeClock := m } : Ppu))]
  rfl

theorem renderSprite_modeClock (q : Params) (ly : Byte) (m : Nat) (p : Ppu) (n : Nat) :
    renderSprite q ly { p with modeClock := m } n = { renderSprite q ly p n with modeClock := m } := by
  unfold renderSprite
  show (match spriteRow q p ly n with | some row => _ | none => _) = _
  cases spriteRow q p ly n with
  | none => rfl
  | some row => exact foldl_modeClock m _ (renderSpritePixel_modeClock q ly n row m) _ p

/-- Rendering does not depend on `mode_clock`. -/
theorem renderLine_modeClock (q : Params) (ly : Byte) (m : Nat) (p : Ppu) :
    renderLine q ly { p with modeClock := m } = { renderLine q ly p with modeClock := m } := by
  have hb : renderBackground ly { p with modeClock := m } = { renderBackground ly p with modeClock := m } :=
    foldl_modeClock m _ (fun _ _ => rfl) _ p
  unfold renderLine renderSprites
  rw [hb]
  dsimp only
  split
  · exact foldl_modeClock m _ (renderSprite_modeClock q ly m) _ _
  · rfl

theorem RenderKeeps.memories {p q : Ppu} (h : RenderKeeps p q) (hp : p.memoriesOk) : q.memoriesOk := by
  obtain ⟨h1, h2, h3⟩ := h
  refine ⟨?_, ?_, h2 hp.2.2.1, h3 hp.2.2.2⟩
  · rw [h1]; exact hp.1
  · rw [h1]; exact hp.2.1

/-- `t` differs from `s` in the picture unit, IF and the output events only. -/
def PictureOnly (s t : State) : Prop := ∃ f p o, t = { s with regIF := f, ppu := p, out := o }

theorem PictureOnly.refl (s : State) : PictureOnly s s := ⟨s.regIF, s.ppu, s.out, rfl⟩

theorem PictureOnly.trans {s t u : State} (h : PictureOnly s t) (k : PictureOnly t u) : PictureOnly s u := by
  obtain ⟨_, _, _, rfl⟩ := h
  obtain ⟨f, p, o, rfl⟩ := k
  exact ⟨f, p, o, rfl⟩

theorem pictureOnly_reqIf (b : Bool) (i : Nat) (s : State) : PictureOnly s (reqIf b i s) := by
  cases b
  · exact .refl s
  · exact ⟨_, s.ppu, s.out, rfl⟩

theorem pictureOnly_req (i : Nat) (s : State) : PictureOnly s (req i s) := ⟨_, s.ppu, s.out, rfl⟩
theorem pictureOnly_ppu (p : Ppu) (s : State) : PictureOnly s { s with ppu := p } := ⟨s.regIF, p, s.out, rfl⟩
theorem pictureOnly_present (s : State) : PictureOnly s (presentFrame s) := ⟨s.regIF, s.ppu, _, rfl⟩
theorem pictureOnly_setLy (v : Byte) (s : State) : PictureOnly s (setLy v s) := pictureOnly_ppu _ s
theorem pictureOnly_enterMode (m : Mode) (s : State) : PictureOnly s (enterMode m s) := pictureOnly_ppu _ s

theorem pictureOnly_leaveMode (s : State) : PictureOnly s (leaveMode s) := by
  unfold leaveMode enterOamScan enterHblank enterVblank renderCurrent
  split
  · exact pictureOnly_enterMode _ s
  · split
    · exact ((pictureOnly_ppu _ s).trans (pictureOnly_enterMode _ _)).trans (pictureOnly_reqIf _ _ _)
    · exact (pictureOnly_enterMode _ s).trans (pictureOnly_reqIf _ _ _)
  · split
    · exact ((((pictureOnly_setLy _ s).trans (pictureOnly_enterMode _ _)).trans (pictureOnly_req _ _)).trans
        (pictureOnly_reqIf _ _ _)).trans (pictureOnly_present _)
    · exact ((pictureOnly_setLy _ s).trans (pictureOnly_enterMode _ _)).trans (pictureOnly_reqIf _ _ _)
  · split
    · exact ((pictureOnly_setLy _ s).trans (pictureOnly_enterMode _ _)).trans (pictureOnly_reqIf _ _ _)
    · exact (pictureOnly_setLy _ s).trans (pictureOnly_enterMode _ _)

theorem pictureOnly_lycCheck (s : State) : PictureOnly s (lycCheck s) :=
  (pictureOnly_ppu _ s).trans (pictureOnly_reqIf _ _ _)

/-- The picture unit's advance changes its own state, IF and the output events only. -/
theorem pictureOnly_ppuAdvance (n : Nat) (s : State) : PictureOnly s (ppuAdvance n s) := by
  unfold ppuAdvance
  refine (pictureOnly_ppu { s.ppu with modeClock := s.ppu.modeClock + n } s).trans (.trans ?_ (pictureOnly_lycCheck _))
  split
  · exact pictureOnly_leaveMode _
  · exact .refl _

/-- What the picture unit keeps from one machine step to the next: its memories' forms and `pictureOk`. -/
def Ppu.ok (p : Ppu) : Prop :=
  p.memoriesOk ∧ p.modeClock < p.mode.cycles ∧
  (p.mode = .vblank → 144 ≤ p.ly.toNat ∧ p.ly.toNat < 154) ∧ (p.mode ≠ .vblank → p.ly.toNat < 144)

/-- Leaving a mode keeps `Ppu.ok` when the cycles past the threshold stay below 80, the shortest mode (R560). -/
theorem leaveMode_ok (s : State) (hm : s.ppu.memoriesOk) (hc : s.ppu.modeClock - s.ppu.mode.cycles < 80)
    (hv : s.ppu.mode = .vblank → 144 ≤ s.ppu.ly.toNat ∧ s.ppu.ly.toNat < 154)
    (hn : s.ppu.mode ≠ .vblank → s.ppu.ly.toNat < 144) : (leaveMode s).ppu.ok := by
  have big : ∀ m : Mode, 80 ≤ m.cycles := by intro m; cases m <;> decide
  unfold leaveMode
  split
  · next e =>
    exact ⟨hm, Nat.lt_of_lt_of_le hc (big _), nofun, fun _ => hn (by rw [e]; nofun)⟩
  · next e =>
    have hly := hn (by rw [e]; nofun)
    have keeps := renderLine_keeps s.params s.ppu.ly hly s.ppu
    unfold enterHblank
    rw [reqIf_ppu]
    unfold renderCurrent
    split
    · have hk := keeps.1
      refine ⟨keeps.memories hm, ?_, nofun, fun _ => ?_⟩
      · show (renderLine s.params s.ppu.ly s.ppu).modeClock - (renderLine s.params s.ppu.ly s.ppu).mode.cycles < _
        rw [hk]; exact Nat.lt_of_lt_of_le hc (big .hblank)
      · show (renderLine s.params s.ppu.ly s.ppu).ly.toNat < 144
        rw [hk]; exact hly
    · exact ⟨hm, Nat.lt_of_lt_of_le hc (big .hblank), nofun, fun _ => hly⟩
  · next e =>
    have hly := hn (by rw [e]; nofun)
    split
    · next h144 =>
      unfold enterVblank
      show (reqIf _ 1 _).ppu.ok
      rw [reqIf_ppu]
      refine ⟨hm, Nat.lt_of_lt_of_le hc (big .vblank), fun _ => ?_, fun h => absurd rfl h⟩
      show 144 ≤ (s.ppu.ly + 1).toNat ∧ (s.ppu.ly + 1).toNat < 154
      rw [h144]; decide
    · next h144 =>
      unfold enterOamScan
      rw [reqIf_ppu]
      refine ⟨hm, Nat.lt_of_lt_of_le hc (big .oamScan), nofun, fun _ => ?_⟩
      show (s.ppu.ly + 1).toNat < 144
      bv_omega
  · next e =>
    have hly := hv e
    split
    · unfold enterOamScan
      rw [reqIf_ppu]
      refine ⟨hm, Nat.lt_of_lt_of_le hc (big .oamScan), nofun, fun _ => ?_⟩
      show (0 : Byte).toNat < 144
      decide
    · next h154 =>
      refine ⟨hm, Nat.lt_of_lt_of_le hc (big .vblank), fun _ => ?_, fun h => absurd rfl h⟩
      show 144 ≤ (s.ppu.ly + 1).toNat ∧ (s.ppu.ly + 1).toNat < 154
      bv_omega

/-- The picture unit's advance by a step's cycles keeps `Ppu.ok` (R560). -/
theorem ppuAdvance_ok (n : Nat) (hn : n ≤ 24) (s : State) (h : s.ppu.ok) : (ppuAdvance n s).ppu.ok := by
  obtain ⟨hm, hc, hv, hl⟩ := h
  have keep : ∀ t : State, t.ppu.ok → (lycCheck t).ppu.ok := by
    intro t ht
    unfold lycCheck
    simp only [reqIf_ppu]
    exact ht
  unfold ppuAdvance
  apply keep
  split
  · exact leaveMode_ok _ hm (by show s.ppu.modeClock + n - s.ppu.mode.cycles < 80; omega) hv hl
  · next hlt => exact ⟨hm, Nat.lt_of_not_le hlt, hv, hl⟩

/-! ## The sound unit -/

/-- What the sound unit keeps: its lengths, `fs_acc`, the gating of the channels by their DACs, and the form of wave RAM. -/
def Sound.ok (x : Sound) : Prop :=
  x.ch1.ch.length ≤ 64 ∧ x.ch2.ch.length ≤ 64 ∧ x.ch3.ch.length ≤ 256 ∧ x.ch4.ch.length ≤ 64 ∧ x.fsAcc < 8192 ∧
  (x.ch1.ch.enabled = true → envDacOn x.regs.nr12 = true) ∧ (x.ch2.ch.enabled = true → envDacOn x.regs.nr22 = true) ∧
  (x.ch3.ch.enabled = true → waveDacOn x.regs.nr30 = true) ∧ (x.ch4.ch.enabled = true → envDacOn x.regs.nr42 = true) ∧
  Memory.wf 16 x.waveRam

/-- `d` is enabled only if `c` was, and has no longer a length: what every tick keeps. -/
def Channel.Calmer (c d : Channel) : Prop := (d.enabled = true → c.enabled = true) ∧ d.length ≤ c.length

theorem Channel.Calmer.refl (c : Channel) : Channel.Calmer c c := ⟨id, le_refl _⟩

theorem Channel.Calmer.trans {c d e : Channel} (h : Channel.Calmer c d) (k : Channel.Calmer d e) : Channel.Calmer c e :=
  ⟨fun he => h.1 (k.1 he), le_trans k.2 h.2⟩

theorem lengthTick_calmer (c : Channel) : Channel.Calmer c c.lengthTick := by
  unfold Channel.lengthTick
  split
  · exact ⟨fun h => by simp only [Bool.and_eq_true] at h; exact h.1, Nat.sub_le _ _⟩
  · exact .refl c

theorem disableIf_calmer (b : Bool) (c : Pulse) : Channel.Calmer c.ch (c.disableIf b).ch := by
  cases b
  · exact .refl _
  · exact ⟨nofun, le_refl _⟩

theorem sweepTick_calmer (q : SweepParams) (c : Pulse) : Channel.Calmer c.ch (c.sweepTick q).1.ch := by
  unfold Pulse.sweepTick
  extract_lets sw c' new f
  split
  · exact .refl _
  · split
    · exact .refl _
    · split
      · exact .refl _
      · split
        · exact disableIf_calmer true c'
        · split
          · exact .refl _
          · exact disableIf_calmer _ { c' with sweep := { c'.sweep with shadow := f } }

theorem sequence_calmer (fire : Option (BitVec 3)) (q : SweepParams) (c : Pulse) :
    Channel.Calmer c.ch (c.sequence fire q).1.ch := by
  unfold Pulse.sequence
  cases firesLength fire <;> cases firesSweep fire <;> cases firesEnvelope fire <;>
    first
    | exact .refl _
    | exact lengthTick_calmer _
    | exact sweepTick_calmer q c
    | exact (lengthTick_calmer c.ch).trans (sweepTick_calmer q { c with ch := c.ch.lengthTick })

theorem writeBack1_dac (g : SoundRegs) (wb : Option (BitVec 11)) :
    (g.writeBack1 wb).nr12 = g.nr12 ∧ (g.writeBack1 wb).nr22 = g.nr22 ∧ (g.writeBack1 wb).nr30 = g.nr30 ∧
    (g.writeBack1 wb).nr42 = g.nr42 := by cases wb <;> exact ⟨rfl, rfl, rfl, rfl⟩

theorem writeBack2_dac (g : SoundRegs) (wb : Option (BitVec 11)) :
    (g.writeBack2 wb).nr12 = g.nr12 ∧ (g.writeBack2 wb).nr22 = g.nr22 ∧ (g.writeBack2 wb).nr30 = g.nr30 ∧
    (g.writeBack2 wb).nr42 = g.nr42 := by cases wb <;> exact ⟨rfl, rfl, rfl, rfl⟩

/-- What a calmer channel keeps of `Sound.ok`. -/
theorem Channel.Calmer.keeps {c d : Channel} (h : Channel.Calmer c d) {k : Nat} {p : Prop}
    (hc : c.length ≤ k ∧ (c.enabled = true → p)) : d.length ≤ k ∧ (d.enabled = true → p) :=
  ⟨le_trans h.2 hc.1, fun e => hc.2 (h.1 e)⟩

theorem advance1_ok (n : Nat) (fire : Option (BitVec 3)) (x : Sound) (h : x.ok) : (x.advance1 n fire).ok := by
  obtain ⟨l1, l2, l3, l4, fs, d1, d2, d3, d4, w⟩ := h
  obtain ⟨g1, g2, g3, g4⟩ := writeBack1_dac x.regs (x.ch1.sequence fire (sweepParams1 x.regs)).2
  have k := (sequence_calmer fire (sweepParams1 x.regs) x.ch1).keeps ⟨l1, d1⟩
  refine ⟨k.1, l2, l3, l4, fs, ?_, ?_, ?_, ?_, w⟩
  · show _ → envDacOn (x.regs.writeBack1 (x.ch1.sequence fire (sweepParams1 x.regs)).2).nr12 = true
    rw [g1]; exact k.2
  · show _ → envDacOn (x.regs.writeBack1 (x.ch1.sequence fire (sweepParams1 x.regs)).2).nr22 = true
    rw [g2]; exact d2
  · show _ → waveDacOn (x.regs.writeBack1 (x.ch1.sequence fire (sweepParams1 x.regs)).2).nr30 = true
    rw [g3]; exact d3
  · show _ → envDacOn (x.regs.writeBack1 (x.ch1.sequence fire (sweepParams1 x.regs)).2).nr42 = true
    rw [g4]; exact d4

theorem advance2_ok (n : Nat) (fire : Option (BitVec 3)) (x : Sound) (h : x.ok) : (x.advance2 n fire).ok := by
  obtain ⟨l1, l2, l3, l4, fs, d1, d2, d3, d4, w⟩ := h
  obtain ⟨g1, g2, g3, g4⟩ := writeBack2_dac x.regs (x.ch2.sequence fire sweepParams2).2
  have k := (sequence_calmer fire sweepParams2 x.ch2).keeps ⟨l2, d2⟩
  refine ⟨l1, k.1, l3, l4, fs, ?_, ?_, ?_, ?_, w⟩
  · show _ → envDacOn (x.regs.writeBack2 (x.ch2.sequence fire sweepParams2).2).nr12 = true
    rw [g1]; exact d1
  · show _ → envDacOn (x.regs.writeBack2 (x.ch2.sequence fire sweepParams2).2).nr22 = true
    rw [g2]; exact k.2
  · show _ → waveDacOn (x.regs.writeBack2 (x.ch2.sequence fire sweepParams2).2).nr30 = true
    rw [g3]; exact d3
  · show _ → envDacOn (x.regs.writeBack2 (x.ch2.sequence fire sweepParams2).2).nr42 = true
    rw [g4]; exact d4

theorem advance3_ok (n : Nat) (fire : Option (BitVec 3)) (x : Sound) (h : x.ok) : (x.advance3 n fire).ok := by
  obtain ⟨l1, l2, l3, l4, fs, d1, d2, d3, d4, w⟩ := h
  have calm : Channel.Calmer x.ch3.ch (x.advance3 n fire).ch3.ch := by
    unfold Sound.advance3
    cases firesLength fire
    · exact .refl _
    · exact lengthTick_calmer _
  have k := calm.keeps ⟨l3, d3⟩
  exact ⟨l1, l2, k.1, l4, fs, d1, d2, k.2, d4, w⟩

theorem advance4_ok (n : Nat) (fire : Option (BitVec 3)) (x : Sound) (h : x.ok) : (x.advance4 n fire).ok := by
  obtain ⟨l1, l2, l3, l4, fs, d1, d2, d3, d4, w⟩ := h
  have calm : Channel.Calmer x.ch4.ch (x.advance4 n fire).ch4.ch := by
    unfold Sound.advance4
    cases firesLength fire <;> cases firesEnvelope fire <;> first | exact .refl _ | exact lengthTick_calmer _
  have k := calm.keeps ⟨l4, d4⟩
  exact ⟨l1, l2, l3, k.1, fs, d1, d2, d3, k.2, w⟩

/-- The sound unit's advance by a step's cycles keeps `Sound.ok` (R640). -/
theorem soundUnit_advance_ok (n : Nat) (hn : n ≤ 24) (x : Sound) (h : x.ok) : (x.advance n).ok := by
  have hs : (x.sequencer n).ok := by
    obtain ⟨l1, l2, l3, l4, fs, d⟩ := h
    unfold Sound.sequencer
    split
    · exact ⟨l1, l2, l3, l4, by show x.fsAcc + n - 8192 < 8192; omega, d⟩
    · exact ⟨l1, l2, l3, l4, by show x.fsAcc + n < 8192; omega, d⟩
  exact advance4_ok _ _ _ (advance3_ok _ _ _ (advance2_ok _ _ _ (advance1_ok _ _ _ hs)))

/-- The advance of the channels leaves the count of cycles owed to the host alone. -/
@[simp] theorem advance_sampleAcc (n : Nat) (x : Sound) : (x.advance n).sampleAcc = x.sampleAcc := by
  show (x.sequencer n).sampleAcc = x.sampleAcc
  unfold Sound.sequencer
  split <;> rfl

/-- A sweep tick leaves the envelope and the wave position alone. -/
theorem sweepTick_rest (q : SweepParams) (c : Pulse) :
    (c.sweepTick q).1.env = c.env ∧ (c.sweepTick q).1.dutyPos = c.dutyPos := by
  have hd : ∀ (b : Bool) (c : Pulse), (c.disableIf b).env = c.env ∧ (c.disableIf b).dutyPos = c.dutyPos := by
    intro b c
    cases b <;> exact ⟨rfl, rfl⟩
  unfold Pulse.sweepTick
  dsimp only
  repeat' split
  all_goals first
    | exact ⟨rfl, rfl⟩
    | exact hd _ _

theorem shortLength_le (v : Byte) : shortLength v ≤ 64 := Nat.sub_le _ _

theorem trigger_channel_ok (b : Bool) (full period : Nat) (c : Channel) (hc : c.length ≤ full) :
    (c.trigger b full period).length ≤ full ∧ ((c.trigger b full period).enabled = true → b = true) := by
  refine ⟨?_, id⟩
  show (if c.length = 0 then full else c.length) ≤ full
  split <;> omega

theorem pulseTrigger_ok (nrx2 : Byte) (f : BitVec 11) (q : SweepParams) (c : Pulse) (hc : c.ch.length ≤ 64) :
    (c.trigger nrx2 f q).ch.length ≤ 64 ∧ ((c.trigger nrx2 f q).ch.enabled = true → envDacOn nrx2 = true) :=
  (disableIf_calmer _ _).keeps (trigger_channel_ok (envDacOn nrx2) 64 (pulsePeriod f) c.ch hc)

/-- A write of a sound register keeps `Sound.ok` (R622, R630). -/
theorem soundWrite_ok (x : Sound) (r : SoundReg) (v : Byte) (h : x.ok) : (x.write r v).ok := by
  obtain ⟨l1, l2, l3, l4, fs, d1, d2, d3, d4, w⟩ := h
  cases r with
  | nr11 => exact ⟨shortLength_le v, l2, l3, l4, fs, d1, d2, d3, d4, w⟩
  | nr21 => exact ⟨l1, shortLength_le v, l3, l4, fs, d1, d2, d3, d4, w⟩
  | nr31 => exact ⟨l1, l2, Nat.sub_le _ _, l4, fs, d1, d2, d3, d4, w⟩
  | nr41 => exact ⟨l1, l2, l3, shortLength_le v, fs, d1, d2, d3, d4, w⟩
  | nr12 =>
    exact ⟨l1, l2, l3, l4, fs, fun e => (Bool.and_eq_true _ _ ▸ e : _ ∧ _).2, d2, d3, d4, w⟩
  | nr22 =>
    exact ⟨l1, l2, l3, l4, fs, d1, fun e => (Bool.and_eq_true _ _ ▸ e : _ ∧ _).2, d3, d4, w⟩
  | nr30 =>
    exact ⟨l1, l2, l3, l4, fs, d1, d2, fun e => (Bool.and_eq_true _ _ ▸ e : _ ∧ _).2, d4, w⟩
  | nr42 =>
    exact ⟨l1, l2, l3, l4, fs, d1, d2, d3, fun e => (Bool.and_eq_true _ _ ▸ e : _ ∧ _).2, w⟩
  | nr14 =>
    unfold Sound.write
    cases Byte.bit v 7
    · exact ⟨l1, l2, l3, l4, fs, d1, d2, d3, d4, w⟩
    · have k := pulseTrigger_ok x.regs.nr12 (x.regs.store .nr14 v).f1 (sweepParams1 (x.regs.store .nr14 v))
        { x.ch1 with ch := x.ch1.ch.setLengthEnabled v } l1
      exact ⟨k.1, l2, l3, l4, fs, k.2, d2, d3, d4, w⟩
  | nr24 =>
    unfold Sound.write
    cases Byte.bit v 7
    · exact ⟨l1, l2, l3, l4, fs, d1, d2, d3, d4, w⟩
    · have k := pulseTrigger_ok x.regs.nr22 (x.regs.store .nr24 v).f2 sweepParams2
        { x.ch2 with ch := x.ch2.ch.setLengthEnabled v } l2
      exact ⟨l1, k.1, l3, l4, fs, d1, k.2, d3, d4, w⟩
  | nr34 =>
    unfold Sound.write
    cases Byte.bit v 7
    · exact ⟨l1, l2, l3, l4, fs, d1, d2, d3, d4, w⟩
    · have k := trigger_channel_ok (waveDacOn x.regs.nr30) 256 (wavePeriod (x.regs.store .nr34 v).f3)
        (x.ch3.ch.setLengthEnabled v) l3
      exact ⟨l1, l2, k.1, l4, fs, d1, d2, k.2, d4, w⟩
  | nr44 =>
    unfold Sound.write
    cases Byte.bit v 7
    · exact ⟨l1, l2, l3, l4, fs, d1, d2, d3, d4, w⟩
    · have k := trigger_channel_ok (envDacOn x.regs.nr42) 64 (noisePeriod x.regs.nr43) (x.ch4.ch.setLengthEnabled v) l4
      exact ⟨l1, l2, l3, k.1, fs, d1, d2, d3, k.2, w⟩
  | _ => exact ⟨l1, l2, l3, l4, fs, d1, d2, d3, d4, w⟩

end Sys2Proof.Machine
end

