-- ==== Sys2Proof/Laws/Exec.lean ====
section
/-! SUPPORT. What an instruction does, by the rule it falls under, and what every instruction's execution has in common. -/

namespace Sys2Proof.Machine

/-- The operation of a shape's rule. -/
def Shape.run : Shape → State → Outcome
  | .ldRegReg dst src => runLdRegReg dst src
  | .ldRegHl dst => runLdRegHl dst
  | .ldHlReg src => runLdHlReg src
  | .ldRegImm dst n => runLdRegImm dst n
  | .ldHlImm n => runLdHlImm n
  | .ldABc => runLdABc
  | .ldADe => runLdADe
  | .ldBcA => runLdBcA
  | .ldDeA => runLdDeA
  | .ldAHlInc => runLdAHlInc
  | .ldAHlDec => runLdAHlDec
  | .ldHlIncA => runLdHlIncA
  | .ldHlDecA => runLdHlDecA
  | .ldAAbs aa => runLdAAbs aa
  | .ldAbsA aa => runLdAbsA aa
  | .ldhA a => runLdhA a
  | .ldhStore a => runLdhStore a
  | .ldAHighC => runLdAHighC
  | .ldHighCA => runLdHighCA
  | .ldPairImm p nn => runLdPairImm p nn
  | .ldSpHl => runLdSpHl
  | .ldAbsSp aa => runLdAbsSp aa
  | .push q => runPush q
  | .pop q => runPop q
  | .alu op src => runAlu op src
  | .incReg r => runIncReg r
  | .incHl => runIncHl
  | .decReg r => runDecReg r
  | .decHl => runDecHl
  | .daa => runDaa
  | .cpl => runCpl
  | .scf => runScf
  | .ccf => runCcf
  | .rlca => runRlca
  | .rrca => runRrca
  | .rla => runRla
  | .rra => runRra
  | .addHl p => runAddHl p
  | .incPair p => runIncPair p
  | .decPair p => runDecPair p
  | .addSp e => runAddSp e
  | .ldHlSp e => runLdHlSp e
  | .rot op l => runRot op l
  | .bit b l => runBit b l
  | .res b l => runRes b l
  | .set b l => runSet b l
  | .jp aa => runJp aa
  | .jpCond cc aa => runJpCond cc aa
  | .jpHl => runJpHl
  | .jr e => runJr e
  | .jrCond cc e => runJrCond cc e
  | .call aa => runCall aa
  | .callCond cc aa => runCallCond cc aa
  | .ret => runRet
  | .retCond cc => runRetCond cc
  | .rst y => runRst y
  | .reti => runReti
  | .nop => runNop
  | .halt => runHalt
  | .stop x => runStop x
  | .di => runDi
  | .ei => runEi

/-- Every row of the opcode table runs the operation of its rule. -/
theorem exec_shape (i : Instr) (s : State) : exec i s = Shape.run i.shape s := by cases i <;> rfl

/-! ## The stack -/

/-- `Push16` as a change of SP over two bus writes (R240). -/
theorem push16_eq (v : Word) (s : State) :
    push16 v s = (memWrite (s.regs.sp - 2) v.lo (memWrite (s.regs.sp - 2 + 1) v.hi s)).setSp (s.regs.sp - 2) := by
  unfold push16
  simp only [memWrite_setSp]

/-- Execution clears `halt_bug`, which no push depends on. -/
@[simp] theorem push16_setHaltBug (v : Word) (s : State) (b : Bool) :
    push16 v { s with haltBug := b } = { push16 v s with haltBug := b } := by
  simp only [push16_eq, memWrite_setHaltBug]
  rfl

/-! ## Execution -/

/-- What an instruction that returns `Default` does: its effect, then PC past it and its base cost (R171). -/
theorem executeDefault_eq (d : Descriptor) (f : State → State) (s : State) :
    executeDefault d f s =
      .next { (f { s with haltBug := false }).setPc (s.npc d.length) with cycles := d.base } := rfl

/-- What an unconditional transfer does (R380). -/
theorem executeJump_eq (d : Descriptor) (f : Word → State → State) (s : State) :
    executeJump d f s = .next { f (s.npc d.length) { s with haltBug := false } with cycles := d.base } := rfl

/-- What a conditional transfer does when its condition holds (R380). -/
theorem executeCond_taken (d : Descriptor) (b : Bool) (hb : b = true) (f : Word → State → State) (s : State) :
    executeCond d b f s =
      .next { f (s.npc d.length) { s with haltBug := false } with cycles := d.alternate } := by
  subst hb; rfl

/-- What a conditional transfer does when its condition fails (R380). -/
theorem executeCond_notTaken (d : Descriptor) (b : Bool) (hb : b = false) (f : Word → State → State) (s : State) :
    executeCond d b f s =
      .next { ({ s with haltBug := false }.setPc (s.npc d.length)) with cycles := d.base } := by
  subst hb; rfl

end Sys2Proof.Machine
end

