-- ==== Sys2Proof/Laws/Invariant.lean ====
section
/-! SUPPORT. What the shared operations keep of the invariant. -/

namespace Sys2Proof.Machine

/-- The part of the invariant that does not speak of the CPU's control state. -/
structure State.SystemOk (s : State) : Prop where
  flags  : flagsOk s
  wram   : Memory.wf 8192 s.wram
  hram   : Memory.wf 127 s.hram
  ram    : Memory.wf s.cart.ramSize s.cart.ram
  rom    : Memory.wf s.cart.rom.size s.cart.rom.bytes
  cart   : cartOk s
  timer  : timerOk s
  ppu    : s.ppu.ok
  sound  : s.sound.ok
  sample : 0 < s.params.samplePeriodNum → s.sound.sampleAcc < s.params.samplePeriodNum

/-- The invariant is `SystemOk` with `controlOk`. -/
theorem inv_iff (s : State) : s.Inv ↔ s.SystemOk ∧ controlOk s := by
  constructor
  · rintro ⟨fl, ⟨w, h, v, o, wr, r, ro, b, fb⟩, c, ⟨p1, p2, p3⟩, t, ⟨s1, s2, s3, s4, s5, s6⟩, ⟨d1, d2, d3, d4⟩, ctl⟩
    exact ⟨⟨fl, w, h, r, ro, c, t, ⟨⟨v, o, b, fb⟩, p1, p2, p3⟩, ⟨s1, s2, s3, s4, s5, d1, d2, d3, d4, wr⟩, s6⟩, ctl⟩
  · rintro ⟨⟨fl, w, h, r, ro, c, t, ⟨⟨v, o, b, fb⟩, p1, p2, p3⟩, ⟨s1, s2, s3, s4, s5, d1, d2, d3, d4, wr⟩, s6⟩, ctl⟩
    exact ⟨fl, ⟨w, h, v, o, wr, r, ro, b, fb⟩, c, ⟨p1, p2, p3⟩, t, ⟨s1, s2, s3, s4, s5, s6⟩, ⟨d1, d2, d3, d4⟩, ctl⟩

/-! ## Register updates -/

/-- `SystemOk` reads the flags and the memory system only. -/
theorem State.SystemOk.congr {s t : State} (h : s.SystemOk) (hf : flagsOk t)
    (e : t = { t with
      wram := s.wram, hram := s.hram, timer := s.timer, ppu := s.ppu, sound := s.sound, cart := s.cart,
      params := s.params }) : t.SystemOk := by
  rw [e]
  exact ⟨hf, h.wram, h.hram, h.ram, h.rom, h.cart, h.timer, h.ppu, h.sound, h.sample⟩

section
variable {s : State} (h : s.SystemOk)
include h

theorem State.SystemOk.setPc (v : Word) : (s.setPc v).SystemOk := h.congr (by exact h.flags) rfl
theorem State.SystemOk.setSp (v : Word) : (s.setSp v).SystemOk := h.congr (by exact h.flags) rfl
theorem State.SystemOk.setF (v : Byte) : (s.setF v).SystemOk := h.congr (mask_low v) rfl
theorem State.SystemOk.setFlags (z n hc c : Bool) : (s.setFlags z n hc c).SystemOk := h.setF _
theorem State.SystemOk.setResultFlags (r : Result8) : (s.setResultFlags r).SystemOk := h.setF _

theorem State.SystemOk.setReg (r : Reg8) (v : Byte) : (s.setReg r v).SystemOk := by
  cases r <;> exact h.congr (by exact h.flags) rfl

theorem State.SystemOk.setPair (p : Pair16) (v : Word) : (s.setPair p v).SystemOk := by
  cases p <;> exact h.congr (by exact h.flags) rfl

theorem State.SystemOk.setStackPair (q : StackPair) (v : Word) : (s.setStackPair q v).SystemOk := by
  cases q with
  | af => exact (h.setReg .a v.hi).setF v.lo
  | bc => exact h.setPair .bc v
  | de => exact h.setPair .de v
  | hl => exact h.setPair .hl v

theorem State.SystemOk.setCycles (n : Nat) : State.SystemOk { s with cycles := n } := h.congr (by exact h.flags) rfl
theorem State.SystemOk.setHaltBug (b : Bool) : State.SystemOk { s with haltBug := b } := h.congr (by exact h.flags) rfl

/-! ## Memory -/

theorem writeControl_cartOk (a : Nat) (v : Byte) : (s.cart.writeControl a v).romBank ≠ 0 := by
  have hb := h.cart.2
  have clamp : ∀ b : BitVec 5, clampBank b ≠ 0 := by decide
  unfold Cart.writeControl Cart.writeControlA Cart.writeControlB
  repeat' split
  all_goals first | exact hb | exact clamp _

theorem ramOffset_lt {off k : Nat} (hk : s.cart.ramOffset off = some k) : k < s.cart.ramSize := by
  unfold Cart.ramOffset at hk
  cases hv : s.cart.variant with
  | noBanking =>
    simp only [hv] at hk
    split at hk
    · next hlt => cases hk; exact hlt
    · cases hk
  | schemeA =>
    simp only [hv, Option.ite_none_right_eq_some, Bool.and_eq_true, decide_eq_true_eq, Option.some.injEq] at hk
    exact hk.2 ▸ hk.1.2
  | schemeB =>
    have := h.cart.1 hv
    simp only [hv] at hk
    split at hk
    · cases hk; omega
    · cases hk

theorem State.SystemOk.writeRegion (v : Byte) (x : Region) (hx : x.inBounds) :
    (Machine.writeRegion s v x).SystemOk := by
  obtain ⟨fl, w, hr, ram, rom, c, t, ⟨⟨vr, oam, b, fb⟩, p⟩, so, sa⟩ := id h
  cases x with
  | rom a =>
    obtain ⟨e1, e2, e3, e4⟩ := writeControl_frame s.cart a v
    refine ⟨fl, w, hr, ?_, ?_, ⟨?_, writeControl_cartOk h a v⟩, t, ⟨⟨vr, oam, b, fb⟩, p⟩, so, sa⟩
    · show Memory.wf (s.cart.writeControl a v).ramSize (s.cart.writeControl a v).ram
      rw [e3, e4]; exact ram
    · show Memory.wf (s.cart.writeControl a v).rom.size (s.cart.writeControl a v).rom.bytes
      rw [e1]; exact rom
    · show (s.cart.writeControl a v).variant = .schemeB → (s.cart.writeControl a v).ramSize = 512
      rw [e2, e3]; exact c.1
  | cartRam off =>
    have key : (s.cart.writeRam off v).ramSize = s.cart.ramSize ∧ (s.cart.writeRam off v).rom = s.cart.rom ∧
        (s.cart.writeRam off v).variant = s.cart.variant ∧ (s.cart.writeRam off v).romBank = s.cart.romBank := by
      obtain ⟨m, hm⟩ := writeRam_frame s.cart off v
      rw [hm]; exact ⟨rfl, rfl, rfl, rfl⟩
    refine ⟨fl, w, hr, ?_, ?_, ⟨?_, ?_⟩, t, ⟨⟨vr, oam, b, fb⟩, p⟩, so, sa⟩
    · show Memory.wf (s.cart.writeRam off v).ramSize (s.cart.writeRam off v).ram
      rw [key.1]
      unfold Cart.writeRam
      split
      · next k hk => exact Cells.wf_set ram (ramOffset_lt h hk) v
      · exact ram
    · show Memory.wf (s.cart.writeRam off v).rom.size (s.cart.writeRam off v).rom.bytes
      rw [key.2.1]; exact rom
    · show (s.cart.writeRam off v).variant = .schemeB → (s.cart.writeRam off v).ramSize = 512
      rw [key.1, key.2.2.1]; exact c.1
    · show (s.cart.writeRam off v).romBank ≠ 0
      rw [key.2.2.2]; exact c.2
  | vram off => exact ⟨fl, w, hr, ram, rom, c, t, ⟨⟨Cells.wf_set vr hx v, oam, b, fb⟩, p⟩, so, sa⟩
  | wram off => exact ⟨fl, Cells.wf_set w hx v, hr, ram, rom, c, t, ⟨⟨vr, oam, b, fb⟩, p⟩, so, sa⟩
  | oam off => exact ⟨fl, w, hr, ram, rom, c, t, ⟨⟨vr, Cells.wf_set oam hx v, b, fb⟩, p⟩, so, sa⟩
  | hram off => exact ⟨fl, w, Cells.wf_set hr hx v, ram, rom, c, t, ⟨⟨vr, oam, b, fb⟩, p⟩, so, sa⟩
  | waveRam off =>
    obtain ⟨l1, l2, l3, l4, fs, d1, d2, d3, d4, wr⟩ := so
    exact ⟨fl, w, hr, ram, rom, c, t, ⟨⟨vr, oam, b, fb⟩, p⟩,
      ⟨l1, l2, l3, l4, fs, d1, d2, d3, d4, Cells.wf_set wr hx v⟩, sa⟩
  | dma =>
    obtain ⟨m, hm⟩ := writeDma_eq v s
    have hm' := writeDma_oam_wf v s oam
    show (writeDma v s).SystemOk
    rw [hm] at hm' ⊢
    exact ⟨fl, w, hr, ram, rom, c, t, ⟨⟨vr, hm', b, fb⟩, p⟩, so, sa⟩
  | sound r =>
    have sa' : (s.sound.write r v).sampleAcc = s.sound.sampleAcc := by cases r <;> rfl
    refine ⟨fl, w, hr, ram, rom, c, t, ⟨⟨vr, oam, b, fb⟩, p⟩, soundWrite_ok _ r v so, ?_⟩
    show 0 < s.params.samplePeriodNum → (s.sound.write r v).sampleAcc < s.params.samplePeriodNum
    rw [sa']; exact sa
  | div => exact ⟨fl, w, hr, ram, rom, c, by show (0 : Nat) < 256; omega, ⟨⟨vr, oam, b, fb⟩, p⟩, so, sa⟩
  | _ => exact ⟨fl, w, hr, ram, rom, c, t, ⟨⟨vr, oam, b, fb⟩, p⟩, so, sa⟩

/-- A bus write keeps `SystemOk`. -/
theorem State.SystemOk.memWrite (a : Word) (v : Byte) : (Machine.memWrite a v s).SystemOk :=
  h.writeRegion v _ (region_inBounds a)

theorem State.SystemOk.setLoc (l : Loc8) (v : Byte) : (s.setLoc l v).SystemOk := by
  cases l with
  | reg r => exact h.setReg r v
  | atHl => exact h.memWrite _ v

theorem State.SystemOk.putResult (l : Loc8) (r : Result8) : (s.putResult l r).SystemOk :=
  (h.setLoc l r.value).setResultFlags r

theorem State.SystemOk.push16 (v : Word) : (Machine.push16 v s).SystemOk :=
  ((h.setSp _).memWrite _ _).memWrite _ _

theorem State.SystemOk.callTo (target npc : Word) : (Machine.callTo target npc s).SystemOk := (h.push16 npc).setPc target
theorem State.SystemOk.popSp : (Machine.popSp s).SystemOk := h.setSp _
theorem State.SystemOk.popPc : (Machine.popPc s).SystemOk := h.popSp.setPc _

/-! ## Instructions -/

theorem executeDefault_systemOk (d : Descriptor) (f : State → State) (hf : ∀ t : State, t.SystemOk → (f t).SystemOk) :
    ∃ t, executeDefault d f s = .next t ∧ t.SystemOk :=
  ⟨_, rfl, ((hf _ (h.setHaltBug false)).setPc _).setCycles _⟩

theorem executeJump_systemOk (d : Descriptor) (f : Word → State → State)
    (hf : ∀ npc, ∀ t : State, t.SystemOk → (f npc t).SystemOk) : ∃ t, executeJump d f s = .next t ∧ t.SystemOk :=
  ⟨_, rfl, (hf _ _ (h.setHaltBug false)).setCycles _⟩

theorem executeCond_systemOk (d : Descriptor) (b : Bool) (f : Word → State → State)
    (hf : ∀ npc, ∀ t : State, t.SystemOk → (f npc t).SystemOk) : ∃ t, executeCond d b f s = .next t ∧ t.SystemOk := by
  cases b
  · exact ⟨_, rfl, ((h.setHaltBug false).setPc _).setCycles _⟩
  · exact ⟨_, rfl, (hf _ _ (h.setHaltBug false)).setCycles _⟩

/-- Every instruction completes, and keeps `SystemOk`. -/
theorem exec_systemOk (i : Instr) : ∃ t, exec i s = .next t ∧ t.SystemOk := by
  rw [exec_shape]
  cases i.shape with
  | jp | jpHl | jr =>
    simp only [Shape.run, runJp, runJpHl, runJr]
    refine executeJump_systemOk h _ _ fun _ _ k => ?_
    exact k.setPc _
  | call | rst =>
    simp only [Shape.run, runCall, runRst]
    refine executeJump_systemOk h _ _ fun npc _ k => ?_
    exact k.callTo _ npc
  | ret =>
    simp only [Shape.run, runRet]
    refine executeJump_systemOk h _ _ fun _ _ k => ?_
    exact k.popPc
  | reti =>
    simp only [Shape.run, runReti]
    refine executeJump_systemOk h _ _ fun _ _ k => ?_
    exact (k.popSp.setPc _).congr (by exact k.flags) rfl
  | jpCond | jrCond =>
    simp only [Shape.run, runJpCond, runJrCond]
    refine executeCond_systemOk h _ _ _ fun _ _ k => ?_
    exact k.setPc _
  | callCond =>
    simp only [Shape.run, runCallCond]
    refine executeCond_systemOk h _ _ _ fun npc _ k => ?_
    exact k.callTo _ npc
  | retCond =>
    simp only [Shape.run, runRetCond]
    refine executeCond_systemOk h _ _ _ fun _ _ k => ?_
    exact k.popPc
  | ldRegReg | ldRegHl | ldRegImm | ldABc | ldADe | ldAAbs | ldhA | ldAHighC =>
    simp only [Shape.run, runLdRegReg, runLdRegHl, runLdRegImm, runLdABc, runLdADe, runLdAAbs, runLdhA, runLdAHighC]
    refine executeDefault_systemOk h _ _ fun _ k => ?_
    exact k.setReg _ _
  | ldHlReg | ldHlImm | ldBcA | ldDeA | ldAbsA | ldhStore | ldHighCA =>
    simp only [Shape.run, runLdHlReg, runLdHlImm, runLdBcA, runLdDeA, runLdAbsA, runLdhStore, runLdHighCA]
    refine executeDefault_systemOk h _ _ fun _ k => ?_
    exact k.memWrite _ _
  | ldAHlInc | ldAHlDec =>
    simp only [Shape.run, runLdAHlInc, runLdAHlDec]
    refine executeDefault_systemOk h _ _ fun _ k => ?_
    exact (k.setReg _ _).setPair _ _
  | ldHlIncA | ldHlDecA =>
    simp only [Shape.run, runLdHlIncA, runLdHlDecA]
    refine executeDefault_systemOk h _ _ fun _ k => ?_
    exact (k.memWrite _ _).setPair _ _
  | ldPairImm | incPair | decPair =>
    simp only [Shape.run, runLdPairImm, runIncPair, runDecPair]
    refine executeDefault_systemOk h _ _ fun _ k => ?_
    exact k.setPair _ _
  | ldSpHl =>
    simp only [Shape.run, runLdSpHl]
    refine executeDefault_systemOk h _ _ fun _ k => ?_
    exact k.setSp _
  | ldAbsSp =>
    simp only [Shape.run, runLdAbsSp]
    refine executeDefault_systemOk h _ _ fun _ k => ?_
    exact (k.memWrite _ _).memWrite _ _
  | push =>
    simp only [Shape.run, runPush]
    refine executeDefault_systemOk h _ _ fun _ k => ?_
    exact k.push16 _
  | pop =>
    simp only [Shape.run, runPop]
    refine executeDefault_systemOk h _ _ fun _ k => ?_
    exact k.popSp.setStackPair _ _
  | alu | incReg | incHl | decReg | decHl | daa | rlca | rrca | rla | rra | rot =>
    simp only [Shape.run, runAlu, runIncReg, runIncHl, runDecReg, runDecHl, runDaa, runRlca, runRrca, runRla, runRra, runRot]
    refine executeDefault_systemOk h _ _ fun _ k => ?_
    exact k.putResult _ _
  | cpl =>
    simp only [Shape.run, runCpl]
    refine executeDefault_systemOk h _ _ fun _ k => ?_
    exact (k.setReg _ _).setFlags ..
  | scf | ccf | bit =>
    simp only [Shape.run, runScf, runCcf, runBit]
    refine executeDefault_systemOk h _ _ fun _ k => ?_
    exact k.setFlags ..
  | addHl | ldHlSp =>
    simp only [Shape.run, runAddHl, runLdHlSp]
    refine executeDefault_systemOk h _ _ fun _ k => ?_
    exact (k.setPair _ _).setFlags ..
  | addSp =>
    simp only [Shape.run, runAddSp]
    refine executeDefault_systemOk h _ _ fun _ k => ?_
    exact (k.setSp _).setFlags ..
  | res | set =>
    simp only [Shape.run, runRes, runSet]
    refine executeDefault_systemOk h _ _ fun _ k => ?_
    exact k.setLoc _ _
  | nop =>
    simp only [Shape.run, runNop]
    refine executeDefault_systemOk h _ _ fun _ k => ?_
    exact k
  | stop | di =>
    simp only [Shape.run, runStop, runDi]
    refine executeDefault_systemOk h _ _ fun _ k => ?_
    exact k.congr (by exact k.flags) rfl
  | halt =>
    simp only [Shape.run, runHalt]
    refine executeDefault_systemOk h _ _ fun t k => ?_
    unfold enterHalt
    split <;> exact k.congr (by exact k.flags) rfl
  | ei =>
    simp only [Shape.run, runEi]
    refine executeDefault_systemOk h _ _ fun t k => ?_
    split
    · exact k.congr (by exact k.flags) rfl
    · exact k

/-! ## The step -/

theorem State.SystemOk.dispatchInterrupt : (Machine.dispatchInterrupt s).SystemOk := by
  have k : State.SystemOk { s with ime := false, eiDelay := 0, haltBug := false } := h.congr (by exact h.flags) rfl
  have k' := k.push16 (s.regs.pc - s.haltBugBytes)
  exact k'.congr (by exact k'.flags) rfl

theorem State.SystemOk.endOfStep : (Machine.endOfStep s).SystemOk := by
  unfold Machine.endOfStep
  split
  · exact h
  · exact h.congr (by exact h.flags) rfl
  · exact h.congr (by exact h.flags) rfl

theorem State.SystemOk.wakeFromHalt : (Machine.wakeFromHalt s).SystemOk := by
  unfold Machine.wakeFromHalt
  split
  · exact h.congr (by exact h.flags) rfl
  · exact h

theorem State.SystemOk.beginStep : (Machine.beginStep s).SystemOk := by
  obtain ⟨f, j, l, e⟩ := pollButtons_eq s
  unfold Machine.beginStep
  rw [e]
  exact h.congr (by exact h.flags) rfl

omit h in
theorem sub_div_mul_lt (a : Nat) {k : Nat} (hk : 0 < k) : a - a / k * k < k := by
  rw [Nat.mul_comm, ← Nat.mod_def]
  exact Nat.mod_lt _ hk

/-- The devices' advance by a step's cycles keeps `SystemOk`. -/
theorem State.SystemOk.advanceDevices (n : Nat) (hn : n ≤ 24) : (Machine.advanceDevices n s).SystemOk := by
  unfold Machine.advanceDevices
  have hp := ppuAdvance_ok n hn s h.ppu
  obtain ⟨f, p, o, e⟩ := pictureOnly_ppuAdvance n s
  rw [e] at hp ⊢
  obtain ⟨f', t, e', ht⟩ := timerAdvance_eq n { s with regIF := f, ppu := p, out := o }
  rw [e']
  refine ⟨h.flags, h.wram, h.hram, h.ram, h.rom, h.cart, ht, hp, ?_, fun hpos => ?_⟩
  · exact soundUnit_advance_ok n hn s.sound h.sound
  · exact sub_div_mul_lt _ hpos

end

end Sys2Proof.Machine
end

