-- ==== Sys2Proof/Tests/Slice0.lean ====
section
/-! SUPPORT. The model's own tests. Every expected value is the spec's: an encoding of 30_encoding.md, a vector of 95_test_vectors.md
(named by its id), or a rule's own example. The last part shows, for each statement with hypotheses, values that meet them. -/

namespace Sys2Proof.Tests

open Sys2Proof Sys2Proof.Machine

/-! ## Well-formedness: a term that each check refuses -/

/-- Every instruction is well formed: its operands have the widths of its encoding (R152). -/
theorem test_wf_instruction : (Instr.ldAD8 0xFF).wellFormed = true := by decide

/-- A sample period of 0 is refused, in either part of the fraction (R7). -/
theorem test_wf_params : Params.default.wellFormed = true ∧ { Params.default with samplePeriodNum := 0 }.wellFormed = false ∧
    { Params.default with samplePeriodDen := 0 }.wellFormed = false := by decide

/-- An image with a byte past its end, with bytes out of order, or with a listed zero is refused. -/
theorem test_wf_rom : Rom.wellFormed ⟨2, [(0, 0x3E), (1, 0x42)]⟩ = true ∧ Rom.wellFormed ⟨2, [(2, 0x3E)]⟩ = false ∧
    Rom.wellFormed ⟨2, [(1, 0x42), (0, 0x3E)]⟩ = false ∧ Rom.wellFormed ⟨2, [(0, 0x00)]⟩ = false := by decide

/-- An initial memory past its size is refused, each memory by its own size (10_state.md R40). -/
theorem test_wf_initMem : InitMem.zero.wellFormed 0 = true ∧
    { InitMem.zero with vram := [(8192, 1)] }.wellFormed 0 = false ∧ { InitMem.zero with oam := [(160, 1)] }.wellFormed 0 = false ∧
    { InitMem.zero with wram := [(8192, 1)] }.wellFormed 0 = false ∧ { InitMem.zero with hram := [(127, 1)] }.wellFormed 0 = false ∧
    { InitMem.zero with waveRam := [(16, 1)] }.wellFormed 0 = false ∧
    { InitMem.zero with cartRam := [(512, 1)] }.wellFormed 512 = false := by decide

/-! ## Decoding: a word of every row -/

/-- Every pair's bytes decode, with no byte left over, to the pair's instruction. -/
def decodesTo (l : List (List Byte × Instr)) : Bool := l.all (fun x => decode x.1 == .ok x.2 [])

/-- Words written from the encodings of row 0x (R160). -/
theorem test_decode_regular_0x : decodesTo [
    ([0x00], .nop), ([0x01, 0x34, 0x12], .ldBcD16 0x1234), ([0x02], .ldAtBcA), ([0x03], .incBc),
    ([0x04], .incB), ([0x05], .decB), ([0x06, 0x34], .ldBD8 0x34), ([0x07], .rlca),
    ([0x08, 0x34, 0x12], .ldAtA16Sp 0x1234), ([0x09], .addHlBc), ([0x0A], .ldAAtBc), ([0x0B], .decBc),
    ([0x0C], .incC), ([0x0D], .decC), ([0x0E, 0x34], .ldCD8 0x34), ([0x0F], .rrca)] = true := by decide

/-- Words written from the encodings of row 1x (R160). -/
theorem test_decode_regular_1x : decodesTo [
    ([0x10, 0x34], .stop 0x34), ([0x11, 0x34, 0x12], .ldDeD16 0x1234), ([0x12], .ldAtDeA), ([0x13], .incDe),
    ([0x14], .incD), ([0x15], .decD), ([0x16, 0x34], .ldDD8 0x34), ([0x17], .rla),
    ([0x18, 0x34], .jrE8 0x34), ([0x19], .addHlDe), ([0x1A], .ldAAtDe), ([0x1B], .decDe),
    ([0x1C], .incE), ([0x1D], .decE), ([0x1E, 0x34], .ldED8 0x34), ([0x1F], .rra)] = true := by decide

/-- Words written from the encodings of row 2x (R160). -/
theorem test_decode_regular_2x : decodesTo [
    ([0x20, 0x34], .jrNzE8 0x34), ([0x21, 0x34, 0x12], .ldHlD16 0x1234), ([0x22], .ldAtHlIncA), ([0x23], .incHl),
    ([0x24], .incH), ([0x25], .decH), ([0x26, 0x34], .ldHD8 0x34), ([0x27], .daa),
    ([0x28, 0x34], .jrZE8 0x34), ([0x29], .addHlHl), ([0x2A], .ldAAtHlInc), ([0x2B], .decHl),
    ([0x2C], .incL), ([0x2D], .decL), ([0x2E, 0x34], .ldLD8 0x34), ([0x2F], .cpl)] = true := by decide

/-- Words written from the encodings of row 3x (R160). -/
theorem test_decode_regular_3x : decodesTo [
    ([0x30, 0x34], .jrNcE8 0x34), ([0x31, 0x34, 0x12], .ldSpD16 0x1234), ([0x32], .ldAtHlDecA), ([0x33], .incSp),
    ([0x34], .incAtHl), ([0x35], .decAtHl), ([0x36, 0x34], .ldAtHlD8 0x34), ([0x37], .scf),
    ([0x38, 0x34], .jrCE8 0x34), ([0x39], .addHlSp), ([0x3A], .ldAAtHlDec), ([0x3B], .decSp),
    ([0x3C], .incA), ([0x3D], .decA), ([0x3E, 0x34], .ldAD8 0x34), ([0x3F], .ccf)] = true := by decide

/-- Words written from the encodings of row 4x (R160). -/
theorem test_decode_regular_4x : decodesTo [
    ([0x40], .ldBB), ([0x41], .ldBC), ([0x42], .ldBD), ([0x43], .ldBE),
    ([0x44], .ldBH), ([0x45], .ldBL), ([0x46], .ldBAtHl), ([0x47], .ldBA),
    ([0x48], .ldCB), ([0x49], .ldCC), ([0x4A], .ldCD), ([0x4B], .ldCE),
    ([0x4C], .ldCH), ([0x4D], .ldCL), ([0x4E], .ldCAtHl), ([0x4F], .ldCA)] = true := by decide

/-- Words written from the encodings of row 5x (R160). -/
theorem test_decode_regular_5x : decodesTo [
    ([0x50], .ldDB), ([0x51], .ldDC), ([0x52], .ldDD), ([0x53], .ldDE),
    ([0x54], .ldDH), ([0x55], .ldDL), ([0x56], .ldDAtHl), ([0x57], .ldDA),
    ([0x58], .ldEB), ([0x59], .ldEC), ([0x5A], .ldED), ([0x5B], .ldEE),
    ([0x5C], .ldEH), ([0x5D], .ldEL), ([0x5E], .ldEAtHl), ([0x5F], .ldEA)] = true := by decide

/-- Words written from the encodings of row 6x (R160). -/
theorem test_decode_regular_6x : decodesTo [
    ([0x60], .ldHB), ([0x61], .ldHC), ([0x62], .ldHD), ([0x63], .ldHE),
    ([0x64], .ldHH), ([0x65], .ldHL), ([0x66], .ldHAtHl), ([0x67], .ldHA),
    ([0x68], .ldLB), ([0x69], .ldLC), ([0x6A], .ldLD), ([0x6B], .ldLE),
    ([0x6C], .ldLH), ([0x6D], .ldLL), ([0x6E], .ldLAtHl), ([0x6F], .ldLA)] = true := by decide

/-- Words written from the encodings of row 7x (R160). -/
theorem test_decode_regular_7x : decodesTo [
    ([0x70], .ldAtHlB), ([0x71], .ldAtHlC), ([0x72], .ldAtHlD), ([0x73], .ldAtHlE),
    ([0x74], .ldAtHlH), ([0x75], .ldAtHlL), ([0x76], .halt), ([0x77], .ldAtHlA),
    ([0x78], .ldAB), ([0x79], .ldAC), ([0x7A], .ldAD), ([0x7B], .ldAE),
    ([0x7C], .ldAH), ([0x7D], .ldAL), ([0x7E], .ldAAtHl), ([0x7F], .ldAA)] = true := by decide

/-- Words written from the encodings of row 8x (R160). -/
theorem test_decode_regular_8x : decodesTo [
    ([0x80], .addAB), ([0x81], .addAC), ([0x82], .addAD), ([0x83], .addAE),
    ([0x84], .addAH), ([0x85], .addAL), ([0x86], .addAAtHl), ([0x87], .addAA),
    ([0x88], .adcAB), ([0x89], .adcAC), ([0x8A], .adcAD), ([0x8B], .adcAE),
    ([0x8C], .adcAH), ([0x8D], .adcAL), ([0x8E], .adcAAtHl), ([0x8F], .adcAA)] = true := by decide

/-- Words written from the encodings of row 9x (R160). -/
theorem test_decode_regular_9x : decodesTo [
    ([0x90], .subB), ([0x91], .subC), ([0x92], .subD), ([0x93], .subE),
    ([0x94], .subH), ([0x95], .subL), ([0x96], .subAtHl), ([0x97], .subA),
    ([0x98], .sbcAB), ([0x99], .sbcAC), ([0x9A], .sbcAD), ([0x9B], .sbcAE),
    ([0x9C], .sbcAH), ([0x9D], .sbcAL), ([0x9E], .sbcAAtHl), ([0x9F], .sbcAA)] = true := by decide

/-- Words written from the encodings of row Ax (R160). -/
theorem test_decode_regular_Ax : decodesTo [
    ([0xA0], .andB), ([0xA1], .andC), ([0xA2], .andD), ([0xA3], .andE),
    ([0xA4], .andH), ([0xA5], .andL), ([0xA6], .andAtHl), ([0xA7], .andA),
    ([0xA8], .xorB), ([0xA9], .xorC), ([0xAA], .xorD), ([0xAB], .xorE),
    ([0xAC], .xorH), ([0xAD], .xorL), ([0xAE], .xorAtHl), ([0xAF], .xorA)] = true := by decide

/-- Words written from the encodings of row Bx (R160). -/
theorem test_decode_regular_Bx : decodesTo [
    ([0xB0], .orB), ([0xB1], .orC), ([0xB2], .orD), ([0xB3], .orE),
    ([0xB4], .orH), ([0xB5], .orL), ([0xB6], .orAtHl), ([0xB7], .orA),
    ([0xB8], .cpB), ([0xB9], .cpC), ([0xBA], .cpD), ([0xBB], .cpE),
    ([0xBC], .cpH), ([0xBD], .cpL), ([0xBE], .cpAtHl), ([0xBF], .cpA)] = true := by decide

/-- Words written from the encodings of row Cx (R160). -/
theorem test_decode_regular_Cx : decodesTo [
    ([0xC0], .retNz), ([0xC1], .popBc), ([0xC2, 0x34, 0x12], .jpNzA16 0x1234), ([0xC3, 0x34, 0x12], .jpA16 0x1234),
    ([0xC4, 0x34, 0x12], .callNzA16 0x1234), ([0xC5], .pushBc), ([0xC6, 0x34], .addAD8 0x34), ([0xC7], .rst00),
    ([0xC8], .retZ), ([0xC9], .ret), ([0xCA, 0x34, 0x12], .jpZA16 0x1234), ([0xCC, 0x34, 0x12], .callZA16 0x1234),
    ([0xCD, 0x34, 0x12], .callA16 0x1234), ([0xCE, 0x34], .adcAD8 0x34), ([0xCF], .rst08)] = true := by decide

/-- Words written from the encodings of row Dx (R160). -/
theorem test_decode_regular_Dx : decodesTo [
    ([0xD0], .retNc), ([0xD1], .popDe), ([0xD2, 0x34, 0x12], .jpNcA16 0x1234), ([0xD4, 0x34, 0x12], .callNcA16 0x1234),
    ([0xD5], .pushDe), ([0xD6, 0x34], .subD8 0x34), ([0xD7], .rst10), ([0xD8], .retC),
    ([0xD9], .reti), ([0xDA, 0x34, 0x12], .jpCA16 0x1234), ([0xDC, 0x34, 0x12], .callCA16 0x1234), ([0xDE, 0x34], .sbcAD8 0x34),
    ([0xDF], .rst18)] = true := by decide

/-- Words written from the encodings of row Ex (R160). -/
theorem test_decode_regular_Ex : decodesTo [
    ([0xE0, 0x34], .ldhAtA8A 0x34), ([0xE1], .popHl), ([0xE2], .ldAtCA), ([0xE5], .pushHl),
    ([0xE6, 0x34], .andD8 0x34), ([0xE7], .rst20), ([0xE8, 0x34], .addSpE8 0x34), ([0xE9], .jpHl),
    ([0xEA, 0x34, 0x12], .ldAtA16A 0x1234), ([0xEE, 0x34], .xorD8 0x34), ([0xEF], .rst28)] = true := by decide

/-- Words written from the encodings of row Fx (R160). -/
theorem test_decode_regular_Fx : decodesTo [
    ([0xF0, 0x34], .ldhAAtA8 0x34), ([0xF1], .popAf), ([0xF2], .ldAAtC), ([0xF3], .di),
    ([0xF5], .pushAf), ([0xF6, 0x34], .orD8 0x34), ([0xF7], .rst30), ([0xF8, 0x34], .ldHlSpE8 0x34),
    ([0xF9], .ldSpHl), ([0xFA, 0x34, 0x12], .ldAAtA16 0x1234), ([0xFB], .ei), ([0xFE, 0x34], .cpD8 0x34),
    ([0xFF], .rst38)] = true := by decide

/-- Words written from the encodings of row 0x (R161). -/
theorem test_decode_cb_0x : decodesTo [
    ([0xCB, 0x00], .rlcB), ([0xCB, 0x01], .rlcC), ([0xCB, 0x02], .rlcD), ([0xCB, 0x03], .rlcE),
    ([0xCB, 0x04], .rlcH), ([0xCB, 0x05], .rlcL), ([0xCB, 0x06], .rlcAtHl), ([0xCB, 0x07], .rlcA),
    ([0xCB, 0x08], .rrcB), ([0xCB, 0x09], .rrcC), ([0xCB, 0x0A], .rrcD), ([0xCB, 0x0B], .rrcE),
    ([0xCB, 0x0C], .rrcH), ([0xCB, 0x0D], .rrcL), ([0xCB, 0x0E], .rrcAtHl), ([0xCB, 0x0F], .rrcA)] = true := by decide

/-- Words written from the encodings of row 1x (R161). -/
theorem test_decode_cb_1x : decodesTo [
    ([0xCB, 0x10], .rlB), ([0xCB, 0x11], .rlC), ([0xCB, 0x12], .rlD), ([0xCB, 0x13], .rlE),
    ([0xCB, 0x14], .rlH), ([0xCB, 0x15], .rlL), ([0xCB, 0x16], .rlAtHl), ([0xCB, 0x17], .rlA),
    ([0xCB, 0x18], .rrB), ([0xCB, 0x19], .rrC), ([0xCB, 0x1A], .rrD), ([0xCB, 0x1B], .rrE),
    ([0xCB, 0x1C], .rrH), ([0xCB, 0x1D], .rrL), ([0xCB, 0x1E], .rrAtHl), ([0xCB, 0x1F], .rrA)] = true := by decide

/-- Words written from the encodings of row 2x (R161). -/
theorem test_decode_cb_2x : decodesTo [
    ([0xCB, 0x20], .slaB), ([0xCB, 0x21], .slaC), ([0xCB, 0x22], .slaD), ([0xCB, 0x23], .slaE),
    ([0xCB, 0x24], .slaH), ([0xCB, 0x25], .slaL), ([0xCB, 0x26], .slaAtHl), ([0xCB, 0x27], .slaA),
    ([0xCB, 0x28], .sraB), ([0xCB, 0x29], .sraC), ([0xCB, 0x2A], .sraD), ([0xCB, 0x2B], .sraE),
    ([0xCB, 0x2C], .sraH), ([0xCB, 0x2D], .sraL), ([0xCB, 0x2E], .sraAtHl), ([0xCB, 0x2F], .sraA)] = true := by decide

/-- Words written from the encodings of row 3x (R161). -/
theorem test_decode_cb_3x : decodesTo [
    ([0xCB, 0x30], .swapB), ([0xCB, 0x31], .swapC), ([0xCB, 0x32], .swapD), ([0xCB, 0x33], .swapE),
    ([0xCB, 0x34], .swapH), ([0xCB, 0x35], .swapL), ([0xCB, 0x36], .swapAtHl), ([0xCB, 0x37], .swapA),
    ([0xCB, 0x38], .srlB), ([0xCB, 0x39], .srlC), ([0xCB, 0x3A], .srlD), ([0xCB, 0x3B], .srlE),
    ([0xCB, 0x3C], .srlH), ([0xCB, 0x3D], .srlL), ([0xCB, 0x3E], .srlAtHl), ([0xCB, 0x3F], .srlA)] = true := by decide

/-- Words written from the encodings of row 4x (R161). -/
theorem test_decode_cb_4x : decodesTo [
    ([0xCB, 0x40], .bit0B), ([0xCB, 0x41], .bit0C), ([0xCB, 0x42], .bit0D), ([0xCB, 0x43], .bit0E),
    ([0xCB, 0x44], .bit0H), ([0xCB, 0x45], .bit0L), ([0xCB, 0x46], .bit0AtHl), ([0xCB, 0x47], .bit0A),
    ([0xCB, 0x48], .bit1B), ([0xCB, 0x49], .bit1C), ([0xCB, 0x4A], .bit1D), ([0xCB, 0x4B], .bit1E),
    ([0xCB, 0x4C], .bit1H), ([0xCB, 0x4D], .bit1L), ([0xCB, 0x4E], .bit1AtHl), ([0xCB, 0x4F], .bit1A)] = true := by decide

/-- Words written from the encodings of row 5x (R161). -/
theorem test_decode_cb_5x : decodesTo [
    ([0xCB, 0x50], .bit2B), ([0xCB, 0x51], .bit2C), ([0xCB, 0x52], .bit2D), ([0xCB, 0x53], .bit2E),
    ([0xCB, 0x54], .bit2H), ([0xCB, 0x55], .bit2L), ([0xCB, 0x56], .bit2AtHl), ([0xCB, 0x57], .bit2A),
    ([0xCB, 0x58], .bit3B), ([0xCB, 0x59], .bit3C), ([0xCB, 0x5A], .bit3D), ([0xCB, 0x5B], .bit3E),
    ([0xCB, 0x5C], .bit3H), ([0xCB, 0x5D], .bit3L), ([0xCB, 0x5E], .bit3AtHl), ([0xCB, 0x5F], .bit3A)] = true := by decide

/-- Words written from the encodings of row 6x (R161). -/
theorem test_decode_cb_6x : decodesTo [
    ([0xCB, 0x60], .bit4B), ([0xCB, 0x61], .bit4C), ([0xCB, 0x62], .bit4D), ([0xCB, 0x63], .bit4E),
    ([0xCB, 0x64], .bit4H), ([0xCB, 0x65], .bit4L), ([0xCB, 0x66], .bit4AtHl), ([0xCB, 0x67], .bit4A),
    ([0xCB, 0x68], .bit5B), ([0xCB, 0x69], .bit5C), ([0xCB, 0x6A], .bit5D), ([0xCB, 0x6B], .bit5E),
    ([0xCB, 0x6C], .bit5H), ([0xCB, 0x6D], .bit5L), ([0xCB, 0x6E], .bit5AtHl), ([0xCB, 0x6F], .bit5A)] = true := by decide

/-- Words written from the encodings of row 7x (R161). -/
theorem test_decode_cb_7x : decodesTo [
    ([0xCB, 0x70], .bit6B), ([0xCB, 0x71], .bit6C), ([0xCB, 0x72], .bit6D), ([0xCB, 0x73], .bit6E),
    ([0xCB, 0x74], .bit6H), ([0xCB, 0x75], .bit6L), ([0xCB, 0x76], .bit6AtHl), ([0xCB, 0x77], .bit6A),
    ([0xCB, 0x78], .bit7B), ([0xCB, 0x79], .bit7C), ([0xCB, 0x7A], .bit7D), ([0xCB, 0x7B], .bit7E),
    ([0xCB, 0x7C], .bit7H), ([0xCB, 0x7D], .bit7L), ([0xCB, 0x7E], .bit7AtHl), ([0xCB, 0x7F], .bit7A)] = true := by decide

/-- Words written from the encodings of row 8x (R161). -/
theorem test_decode_cb_8x : decodesTo [
    ([0xCB, 0x80], .res0B), ([0xCB, 0x81], .res0C), ([0xCB, 0x82], .res0D), ([0xCB, 0x83], .res0E),
    ([0xCB, 0x84], .res0H), ([0xCB, 0x85], .res0L), ([0xCB, 0x86], .res0AtHl), ([0xCB, 0x87], .res0A),
    ([0xCB, 0x88], .res1B), ([0xCB, 0x89], .res1C), ([0xCB, 0x8A], .res1D), ([0xCB, 0x8B], .res1E),
    ([0xCB, 0x8C], .res1H), ([0xCB, 0x8D], .res1L), ([0xCB, 0x8E], .res1AtHl), ([0xCB, 0x8F], .res1A)] = true := by decide

/-- Words written from the encodings of row 9x (R161). -/
theorem test_decode_cb_9x : decodesTo [
    ([0xCB, 0x90], .res2B), ([0xCB, 0x91], .res2C), ([0xCB, 0x92], .res2D), ([0xCB, 0x93], .res2E),
    ([0xCB, 0x94], .res2H), ([0xCB, 0x95], .res2L), ([0xCB, 0x96], .res2AtHl), ([0xCB, 0x97], .res2A),
    ([0xCB, 0x98], .res3B), ([0xCB, 0x99], .res3C), ([0xCB, 0x9A], .res3D), ([0xCB, 0x9B], .res3E),
    ([0xCB, 0x9C], .res3H), ([0xCB, 0x9D], .res3L), ([0xCB, 0x9E], .res3AtHl), ([0xCB, 0x9F], .res3A)] = true := by decide

/-- Words written from the encodings of row Ax (R161). -/
theorem test_decode_cb_Ax : decodesTo [
    ([0xCB, 0xA0], .res4B), ([0xCB, 0xA1], .res4C), ([0xCB, 0xA2], .res4D), ([0xCB, 0xA3], .res4E),
    ([0xCB, 0xA4], .res4H), ([0xCB, 0xA5], .res4L), ([0xCB, 0xA6], .res4AtHl), ([0xCB, 0xA7], .res4A),
    ([0xCB, 0xA8], .res5B), ([0xCB, 0xA9], .res5C), ([0xCB, 0xAA], .res5D), ([0xCB, 0xAB], .res5E),
    ([0xCB, 0xAC], .res5H), ([0xCB, 0xAD], .res5L), ([0xCB, 0xAE], .res5AtHl), ([0xCB, 0xAF], .res5A)] = true := by decide

/-- Words written from the encodings of row Bx (R161). -/
theorem test_decode_cb_Bx : decodesTo [
    ([0xCB, 0xB0], .res6B), ([0xCB, 0xB1], .res6C), ([0xCB, 0xB2], .res6D), ([0xCB, 0xB3], .res6E),
    ([0xCB, 0xB4], .res6H), ([0xCB, 0xB5], .res6L), ([0xCB, 0xB6], .res6AtHl), ([0xCB, 0xB7], .res6A),
    ([0xCB, 0xB8], .res7B), ([0xCB, 0xB9], .res7C), ([0xCB, 0xBA], .res7D), ([0xCB, 0xBB], .res7E),
    ([0xCB, 0xBC], .res7H), ([0xCB, 0xBD], .res7L), ([0xCB, 0xBE], .res7AtHl), ([0xCB, 0xBF], .res7A)] = true := by decide

/-- Words written from the encodings of row Cx (R161). -/
theorem test_decode_cb_Cx : decodesTo [
    ([0xCB, 0xC0], .set0B), ([0xCB, 0xC1], .set0C), ([0xCB, 0xC2], .set0D), ([0xCB, 0xC3], .set0E),
    ([0xCB, 0xC4], .set0H), ([0xCB, 0xC5], .set0L), ([0xCB, 0xC6], .set0AtHl), ([0xCB, 0xC7], .set0A),
    ([0xCB, 0xC8], .set1B), ([0xCB, 0xC9], .set1C), ([0xCB, 0xCA], .set1D), ([0xCB, 0xCB], .set1E),
    ([0xCB, 0xCC], .set1H), ([0xCB, 0xCD], .set1L), ([0xCB, 0xCE], .set1AtHl), ([0xCB, 0xCF], .set1A)] = true := by decide

/-- Words written from the encodings of row Dx (R161). -/
theorem test_decode_cb_Dx : decodesTo [
    ([0xCB, 0xD0], .set2B), ([0xCB, 0xD1], .set2C), ([0xCB, 0xD2], .set2D), ([0xCB, 0xD3], .set2E),
    ([0xCB, 0xD4], .set2H), ([0xCB, 0xD5], .set2L), ([0xCB, 0xD6], .set2AtHl), ([0xCB, 0xD7], .set2A),
    ([0xCB, 0xD8], .set3B), ([0xCB, 0xD9], .set3C), ([0xCB, 0xDA], .set3D), ([0xCB, 0xDB], .set3E),
    ([0xCB, 0xDC], .set3H), ([0xCB, 0xDD], .set3L), ([0xCB, 0xDE], .set3AtHl), ([0xCB, 0xDF], .set3A)] = true := by decide

/-- Words written from the encodings of row Ex (R161). -/
theorem test_decode_cb_Ex : decodesTo [
    ([0xCB, 0xE0], .set4B), ([0xCB, 0xE1], .set4C), ([0xCB, 0xE2], .set4D), ([0xCB, 0xE3], .set4E),
    ([0xCB, 0xE4], .set4H), ([0xCB, 0xE5], .set4L), ([0xCB, 0xE6], .set4AtHl), ([0xCB, 0xE7], .set4A),
    ([0xCB, 0xE8], .set5B), ([0xCB, 0xE9], .set5C), ([0xCB, 0xEA], .set5D), ([0xCB, 0xEB], .set5E),
    ([0xCB, 0xEC], .set5H), ([0xCB, 0xED], .set5L), ([0xCB, 0xEE], .set5AtHl), ([0xCB, 0xEF], .set5A)] = true := by decide

/-- Words written from the encodings of row Fx (R161). -/
theorem test_decode_cb_Fx : decodesTo [
    ([0xCB, 0xF0], .set6B), ([0xCB, 0xF1], .set6C), ([0xCB, 0xF2], .set6D), ([0xCB, 0xF3], .set6E),
    ([0xCB, 0xF4], .set6H), ([0xCB, 0xF5], .set6L), ([0xCB, 0xF6], .set6AtHl), ([0xCB, 0xF7], .set6A),
    ([0xCB, 0xF8], .set7B), ([0xCB, 0xF9], .set7C), ([0xCB, 0xFA], .set7D), ([0xCB, 0xFB], .set7E),
    ([0xCB, 0xFC], .set7H), ([0xCB, 0xFD], .set7L), ([0xCB, 0xFE], .set7AtHl), ([0xCB, 0xFF], .set7A)] = true := by decide

/-- The eleven holes and a sequence that is too short (R162). -/
theorem test_decode_rejects : holes.all (fun op => decode [op, 0, 0] == .noDescriptor op) = true ∧
    decode [0xCD, 0x50] = .truncated ∧ decode [0xCB] = .truncated ∧ decode [] = .truncated := by decide

/-- A table word: one byte, an immediate above it, and a CB word with the prefix as its first byte (log 12). -/
theorem test_decode_table_word : decodeTableWord 8 0x00 = some .nop ∧ decodeTableWord 24 0x1234CD = some (.callA16 0x1234) ∧
    decodeTableWord 16 0x7CCB = some .bit7H ∧ decodeTableWord 16 0xCB7C = some .bit7H ∧ decodeTableWord 8 0xD3 = none := by decide

/-! ## One step on a small state -/

/-- The reset machine with the given AF, BC, DE, HL and SP, and PC = 0xC000, in WRAM (95_test_vectors.md, conventions). -/
def cpu (af bc de hl sp : Word) : State :=
  { State.reset with regs := ⟨af.hi, af.lo, bc.hi, bc.lo, de.hi, de.lo, hl.hi, hl.lo, sp, 0xC000⟩ }

/-- Stores a byte by a bus write. -/
def poke (a : Word) (v : Byte) (s : State) : State := memWrite a v s

/-- Places the bytes of an instruction at PC, takes one step, and tests the state after it. -/
def runs (s : State) (bytes : List Byte) (p : State → Bool) : Bool :=
  match step (placeBytes s.regs.pc bytes s) with
  | .next t => p t
  | .fault _ => false
  | .refused _ => false

/-- All registers and the cycle count. -/
def ends (af bc de hl sp pc : Word) (n : Nat) (t : State) : Bool :=
  t.regs == ⟨af.hi, af.lo, bc.hi, bc.lo, de.hi, de.lo, hl.hi, hl.lo, sp, pc⟩ && t.cycles == n

/-- Whether a step answers a next state. -/
def answers (s : State) : Bool :=
  match step s with
  | .next _ => true
  | .fault _ => false
  | .refused _ => false

/-! Loads (vectors L1-L14). -/

theorem test_L1_ld_b_c : runs (cpu 0x0000 0x005A 0x0000 0x0000 0xD000) [0x41]
    (ends 0x0000 0x5A5A 0x0000 0x0000 0xD000 0xC001 4) = true := by decide

theorem test_L2_ld_a_hl : runs (poke 0xC100 0x99 (cpu 0x0000 0x0000 0x0000 0xC100 0xD000)) [0x7E]
    (ends 0x9900 0x0000 0x0000 0xC100 0xD000 0xC001 8) = true := by decide

theorem test_L3_ld_hl_d8 : runs (cpu 0x0000 0x0000 0x0000 0xC100 0xD000) [0x36, 0x77]
    (fun t => ends 0x0000 0x0000 0x0000 0xC100 0xD000 0xC002 12 t && memRead t 0xC100 == 0x77) = true := by decide

theorem test_L4_ld_a_d8 : runs (cpu 0x0000 0x0000 0x0000 0x0000 0xD000) [0x3E, 0x42]
    (ends 0x4200 0x0000 0x0000 0x0000 0xD000 0xC002 8) = true := by decide

theorem test_L5_ld_a_hl_inc : runs (poke 0xFFFF 0x1F (cpu 0x0000 0x0000 0x0000 0xFFFF 0xD000)) [0x2A]
    (ends 0x1F00 0x0000 0x0000 0x0000 0xD000 0xC001 8) = true := by decide

theorem test_L6_ld_hl_dec_a : runs (cpu 0x1200 0x0000 0x0000 0xC200 0xD000) [0x32]
    (fun t => ends 0x1200 0x0000 0x0000 0xC1FF 0xD000 0xC001 8 t && memRead t 0xC200 == 0x12) = true := by decide

theorem test_L7_ld_a16_sp : runs (cpu 0x0000 0x0000 0x0000 0x0000 0xABCD) [0x08, 0x00, 0xC1]
    (fun t => ends 0x0000 0x0000 0x0000 0x0000 0xABCD 0xC003 20 t && memRead t 0xC100 == 0xCD && memRead t 0xC101 == 0xAB) = true := by decide

theorem test_L8_ldh_a : runs (poke 0xFFFF 0x15 (cpu 0x0000 0x0000 0x0000 0x0000 0xD000)) [0xF0, 0xFF]
    (ends 0x1500 0x0000 0x0000 0x0000 0xD000 0xC002 12) = true := by decide

theorem test_L9_ld_high_c_a : runs (cpu 0x4200 0x0080 0x0000 0x0000 0xD000) [0xE2]
    (fun t => ends 0x4200 0x0080 0x0000 0x0000 0xD000 0xC001 8 t && memRead t 0xFF80 == 0x42) = true := by decide

theorem test_L10_push_bc : runs (cpu 0x0000 0x1234 0x0000 0x0000 0xD000) [0xC5]
    (fun t => ends 0x0000 0x1234 0x0000 0x0000 0xCFFE 0xC001 16 t && memRead t 0xCFFE == 0x34 && memRead t 0xCFFF == 0x12) = true := by decide

theorem test_L11_pop_af : runs (poke 0xD001 0x12 (poke 0xD000 0xFF (cpu 0x0000 0x0000 0x0000 0x0000 0xD000))) [0xF1]
    (ends 0x12F0 0x0000 0x0000 0x0000 0xD002 0xC001 12) = true := by decide

theorem test_L12_ld_sp_hl : runs (cpu 0x0000 0x0000 0x0000 0x8001 0xD000) [0xF9]
    (ends 0x0000 0x0000 0x0000 0x8001 0x8001 0xC001 8) = true := by decide

theorem test_L13_push_onto_ie : runs (cpu 0x0000 0x1234 0x0000 0x0000 0x0001) [0xC5]
    (fun t => ends 0x0000 0x1234 0x0000 0x0000 0xFFFF 0xC001 16 t && t.regIE == 0x34) = true := by decide

theorem test_L14_ld_bc_d16 : runs (cpu 0x0000 0x0000 0x0000 0x0000 0xD000) [0x01, 0x34, 0x12]
    (ends 0x0000 0x1234 0x0000 0x0000 0xD000 0xC003 12) = true := by decide

/-! 8-bit arithmetic and logic (vectors A1-A31). -/

theorem test_A1_add : runs (cpu 0x4500 0x0000 0x0000 0x0000 0xD000) [0xC6, 0x38]
    (ends 0x7D00 0x0000 0x0000 0x0000 0xD000 0xC002 8) = true := by decide

theorem test_A2_add_a_a : runs (cpu 0x8000 0x0000 0x0000 0x0000 0xD000) [0x87]
    (ends 0x0090 0x0000 0x0000 0x0000 0xD000 0xC001 4) = true := by decide

theorem test_A3_add_half : runs (cpu 0x0F00 0x0000 0x0000 0x0000 0xD000) [0xC6, 0x01]
    (ends 0x1020 0x0000 0x0000 0x0000 0xD000 0xC002 8) = true := by decide

theorem test_A4_add_carry : runs (cpu 0xFF00 0x0000 0x0000 0x0000 0xD000) [0xC6, 0x01]
    (ends 0x00B0 0x0000 0x0000 0x0000 0xD000 0xC002 8) = true := by decide

theorem test_A5_adc : runs (cpu 0x0E10 0x0000 0x0000 0x0000 0xD000) [0xCE, 0x01]
    (ends 0x1020 0x0000 0x0000 0x0000 0xD000 0xC002 8) = true := by decide

theorem test_A6_adc_zero : runs (cpu 0xFF10 0x0000 0x0000 0x0000 0xD000) [0xCE, 0x00]
    (ends 0x00B0 0x0000 0x0000 0x0000 0xD000 0xC002 8) = true := by decide

theorem test_A7_sub : runs (cpu 0x1000 0x0000 0x0000 0x0000 0xD000) [0xD6, 0x01]
    (ends 0x0F60 0x0000 0x0000 0x0000 0xD000 0xC002 8) = true := by decide

theorem test_A8_sub_borrow : runs (cpu 0x0000 0x0000 0x0000 0x0000 0xD000) [0xD6, 0x01]
    (ends 0xFF70 0x0000 0x0000 0x0000 0xD000 0xC002 8) = true := by decide

theorem test_A9_sbc : runs (cpu 0x1010 0x0000 0x0000 0x0000 0xD000) [0xDE, 0x00]
    (ends 0x0F60 0x0000 0x0000 0x0000 0xD000 0xC002 8) = true := by decide

theorem test_A10_sbc_a_a : runs (cpu 0x5510 0x0000 0x0000 0x0000 0xD000) [0x9F]
    (ends 0xFF70 0x0000 0x0000 0x0000 0xD000 0xC001 4) = true := by decide

theorem test_A11_and : runs (cpu 0xF010 0x0000 0x0000 0x0000 0xD000) [0xE6, 0x0F]
    (ends 0x00A0 0x0000 0x0000 0x0000 0xD000 0xC002 8) = true := by decide

theorem test_A12_xor_a : runs (cpu 0x3C30 0x0000 0x0000 0x0000 0xD000) [0xAF]
    (ends 0x0080 0x0000 0x0000 0x0000 0xD000 0xC001 4) = true := by decide

theorem test_A13_or : runs (cpu 0x00F0 0x0000 0x0000 0x0000 0xD000) [0xF6, 0x00]
    (ends 0x0080 0x0000 0x0000 0x0000 0xD000 0xC002 8) = true := by decide

theorem test_A14_cp_equal : runs (cpu 0x4200 0x0000 0x0000 0x0000 0xD000) [0xFE, 0x42]
    (ends 0x42C0 0x0000 0x0000 0x0000 0xD000 0xC002 8) = true := by decide

theorem test_A15_cp_below : runs (cpu 0x4200 0x0000 0x0000 0x0000 0xD000) [0xFE, 0x43]
    (ends 0x4270 0x0000 0x0000 0x0000 0xD000 0xC002 8) = true := by decide

theorem test_A16_inc_b_half : runs (cpu 0x0010 0x0F00 0x0000 0x0000 0xD000) [0x04]
    (ends 0x0030 0x1000 0x0000 0x0000 0xD000 0xC001 4) = true := by decide

theorem test_A17_inc_b_zero : runs (cpu 0x0000 0xFF00 0x0000 0x0000 0xD000) [0x04]
    (ends 0x00A0 0x0000 0x0000 0x0000 0xD000 0xC001 4) = true := by decide

theorem test_A18_dec_b_half : runs (cpu 0x0000 0x1000 0x0000 0x0000 0xD000) [0x05]
    (ends 0x0060 0x0F00 0x0000 0x0000 0xD000 0xC001 4) = true := by decide

theorem test_A19_dec_b_zero : runs (cpu 0x0010 0x0100 0x0000 0x0000 0xD000) [0x05]
    (ends 0x00D0 0x0000 0x0000 0x0000 0xD000 0xC001 4) = true := by decide

theorem test_A20_inc_at_hl : runs (poke 0xC100 0xFF (cpu 0x0000 0x0000 0x0000 0xC100 0xD000)) [0x34]
    (fun t => ends 0x00A0 0x0000 0x0000 0xC100 0xD000 0xC001 12 t && memRead t 0xC100 == 0x00) = true := by decide

theorem test_A21_daa : runs (cpu 0x7D00 0x0000 0x0000 0x0000 0xD000) [0x27]
    (ends 0x8300 0x0000 0x0000 0x0000 0xD000 0xC001 4) = true := by decide

theorem test_A22_daa_carry : runs (cpu 0x9A00 0x0000 0x0000 0x0000 0xD000) [0x27]
    (ends 0x0090 0x0000 0x0000 0x0000 0xD000 0xC001 4) = true := by decide

theorem test_A23_daa_subtract : runs (cpu 0x0D60 0x0000 0x0000 0x0000 0xD000) [0x27]
    (ends 0x0740 0x0000 0x0000 0x0000 0xD000 0xC001 4) = true := by decide

theorem test_A24_cpl : runs (cpu 0x3500 0x0000 0x0000 0x0000 0xD000) [0x2F]
    (ends 0xCA60 0x0000 0x0000 0x0000 0xD000 0xC001 4) = true := by decide

theorem test_A25_scf : runs (cpu 0x00E0 0x0000 0x0000 0x0000 0xD000) [0x37]
    (ends 0x0090 0x0000 0x0000 0x0000 0xD000 0xC001 4) = true := by decide

theorem test_A26_ccf : runs (cpu 0x0070 0x0000 0x0000 0x0000 0xD000) [0x3F]
    (ends 0x0000 0x0000 0x0000 0x0000 0xD000 0xC001 4) = true := by decide

theorem test_A27_rlca : runs (cpu 0x8500 0x0000 0x0000 0x0000 0xD000) [0x07]
    (ends 0x0B10 0x0000 0x0000 0x0000 0xD000 0xC001 4) = true := by decide

theorem test_A28_rlca_zero : runs (cpu 0x0080 0x0000 0x0000 0x0000 0xD000) [0x07]
    (ends 0x0000 0x0000 0x0000 0x0000 0xD000 0xC001 4) = true := by decide

theorem test_A29_rrca : runs (cpu 0x0100 0x0000 0x0000 0x0000 0xD000) [0x0F]
    (ends 0x8010 0x0000 0x0000 0x0000 0xD000 0xC001 4) = true := by decide

theorem test_A30_rla : runs (cpu 0x8000 0x0000 0x0000 0x0000 0xD000) [0x17]
    (ends 0x0010 0x0000 0x0000 0x0000 0xD000 0xC001 4) = true := by decide

theorem test_A31_rra : runs (cpu 0x0110 0x0000 0x0000 0x0000 0xD000) [0x1F]
    (ends 0x8010 0x0000 0x0000 0x0000 0xD000 0xC001 4) = true := by decide

/-! 16-bit arithmetic (vectors W1-W8). -/

theorem test_W1_add_hl_bc : runs (cpu 0x0080 0x0001 0x0000 0x0FFF 0xD000) [0x09]
    (ends 0x00A0 0x0001 0x0000 0x1000 0xD000 0xC001 8) = true := by decide

theorem test_W2_add_hl_hl : runs (cpu 0x0000 0x0000 0x0000 0x8000 0xD000) [0x29]
    (ends 0x0010 0x0000 0x0000 0x0000 0xD000 0xC001 8) = true := by decide

theorem test_W3_inc_sp : runs (cpu 0x00F0 0x0000 0x0000 0x0000 0xFFFF) [0x33]
    (ends 0x00F0 0x0000 0x0000 0x0000 0x0000 0xC001 8) = true := by decide

theorem test_W4_dec_bc : runs (cpu 0x0000 0x0000 0x0000 0x0000 0xD000) [0x0B]
    (ends 0x0000 0xFFFF 0x0000 0x0000 0xD000 0xC001 8) = true := by decide

theorem test_W5_add_sp : runs (cpu 0x00C0 0x0000 0x0000 0x0000 0xFFF8) [0xE8, 0x08]
    (ends 0x0030 0x0000 0x0000 0x0000 0x0000 0xC002 16) = true := by decide

theorem test_W6_add_sp_negative : runs (cpu 0x0000 0x0000 0x0000 0x0000 0x0005) [0xE8, 0xFE]
    (ends 0x0030 0x0000 0x0000 0x0000 0x0003 0xC002 16) = true := by decide

theorem test_W7_ld_hl_sp : runs (cpu 0x00F0 0x0000 0x0000 0x0000 0xFFF8) [0xF8, 0x02]
    (ends 0x0000 0x0000 0x0000 0xFFFA 0xFFF8 0xC002 12) = true := by decide

theorem test_W8_ld_hl_sp_half : runs (cpu 0x0000 0x0000 0x0000 0x0000 0x000F) [0xF8, 0x01]
    (ends 0x0020 0x0000 0x0000 0x0010 0x000F 0xC002 12) = true := by decide

/-! The CB table (vectors B1-B14). -/

theorem test_B1_rlc_b : runs (cpu 0x0000 0x8000 0x0000 0x0000 0xD000) [0xCB, 0x00]
    (ends 0x0010 0x0100 0x0000 0x0000 0xD000 0xC002 8) = true := by decide

theorem test_B2_rlc_a_zero : runs (cpu 0x0000 0x0000 0x0000 0x0000 0xD000) [0xCB, 0x07]
    (ends 0x0080 0x0000 0x0000 0x0000 0xD000 0xC002 8) = true := by decide

theorem test_B3_rrc_c : runs (cpu 0x0000 0x0001 0x0000 0x0000 0xD000) [0xCB, 0x09]
    (ends 0x0010 0x0080 0x0000 0x0000 0xD000 0xC002 8) = true := by decide

theorem test_B4_rl_d : runs (cpu 0x0000 0x0000 0x8000 0x0000 0xD000) [0xCB, 0x12]
    (ends 0x0090 0x0000 0x0000 0x0000 0xD000 0xC002 8) = true := by decide

theorem test_B5_rr_e : runs (cpu 0x0000 0x0000 0x0001 0x0000 0xD000) [0xCB, 0x1B]
    (ends 0x0090 0x0000 0x0000 0x0000 0xD000 0xC002 8) = true := by decide

theorem test_B6_sla_h : runs (cpu 0x0000 0x0000 0x0000 0x8100 0xD000) [0xCB, 0x24]
    (ends 0x0010 0x0000 0x0000 0x0200 0xD000 0xC002 8) = true := by decide

theorem test_B7_sra_l : runs (cpu 0x0000 0x0000 0x0000 0x0081 0xD000) [0xCB, 0x2D]
    (ends 0x0010 0x0000 0x0000 0x00C0 0xD000 0xC002 8) = true := by decide

theorem test_B8_swap_at_hl : runs (poke 0xC100 0xF0 (cpu 0x0010 0x0000 0x0000 0xC100 0xD000)) [0xCB, 0x36]
    (fun t => ends 0x0000 0x0000 0x0000 0xC100 0xD000 0xC002 16 t && memRead t 0xC100 == 0x0F) = true := by decide

theorem test_B9_swap_a_zero : runs (cpu 0x0010 0x0000 0x0000 0x0000 0xD000) [0xCB, 0x37]
    (ends 0x0080 0x0000 0x0000 0x0000 0xD000 0xC002 8) = true := by decide

theorem test_B10_srl_a : runs (cpu 0x0100 0x0000 0x0000 0x0000 0xD000) [0xCB, 0x3F]
    (ends 0x0090 0x0000 0x0000 0x0000 0xD000 0xC002 8) = true := by decide

theorem test_B11_bit_7_h : runs (cpu 0x0010 0x0000 0x0000 0x8000 0xD000) [0xCB, 0x7C]
    (ends 0x0030 0x0000 0x0000 0x8000 0xD000 0xC002 8) = true := by decide

theorem test_B12_bit_0_at_hl : runs (poke 0xC100 0xFE (cpu 0x0000 0x0000 0x0000 0xC100 0xD000)) [0xCB, 0x46]
    (fun t => ends 0x00A0 0x0000 0x0000 0xC100 0xD000 0xC002 12 t && memRead t 0xC100 == 0xFE) = true := by decide

theorem test_B13_res_3_a : runs (cpu 0xFFF0 0x0000 0x0000 0x0000 0xD000) [0xCB, 0x9F]
    (ends 0xF7F0 0x0000 0x0000 0x0000 0xD000 0xC002 8) = true := by decide

theorem test_B14_set_7_at_hl : runs (cpu 0x0000 0x0000 0x0000 0xC100 0xD000) [0xCB, 0xFE]
    (fun t => ends 0x0000 0x0000 0x0000 0xC100 0xD000 0xC002 16 t && memRead t 0xC100 == 0x80) = true := by decide

/-! Control transfers (vectors C1-C18). -/

theorem test_C1_jp : runs (cpu 0x0000 0x0000 0x0000 0x0000 0xD000) [0xC3, 0x34, 0x12]
    (ends 0x0000 0x0000 0x0000 0x0000 0xD000 0x1234 16) = true := by decide

theorem test_C2_jp_nz_not_taken : runs (cpu 0x0080 0x0000 0x0000 0x0000 0xD000) [0xC2, 0x34, 0x12]
    (ends 0x0080 0x0000 0x0000 0x0000 0xD000 0xC003 12) = true := by decide

theorem test_C3_jp_c_taken : runs (cpu 0x0010 0x0000 0x0000 0x0000 0xD000) [0xDA, 0x34, 0x12]
    (ends 0x0010 0x0000 0x0000 0x0000 0xD000 0x1234 16) = true := by decide

theorem test_C4_jp_hl : runs (cpu 0x0000 0x0000 0x0000 0x4000 0xD000) [0xE9]
    (ends 0x0000 0x0000 0x0000 0x4000 0xD000 0x4000 4) = true := by decide

theorem test_C5_jr_self : runs (cpu 0x0000 0x0000 0x0000 0x0000 0xD000) [0x18, 0xFE]
    (ends 0x0000 0x0000 0x0000 0x0000 0xD000 0xC000 12) = true := by decide

theorem test_C6_jr_back : runs (cpu 0x0000 0x0000 0x0000 0x0000 0xD000) [0x18, 0x80]
    (ends 0x0000 0x0000 0x0000 0x0000 0xD000 0xBF82 12) = true := by decide

theorem test_C7_jr_wrap : runs (cpu 0x0000 0x0000 0x0000 0x0000 0xD000 |>.setPc 0xFF80) [0x18, 0x7F]
    (ends 0x0000 0x0000 0x0000 0x0000 0xD000 0x0001 12) = true := by decide

theorem test_C8_jr_z_taken : runs (cpu 0x0080 0x0000 0x0000 0x0000 0xD000) [0x28, 0x05]
    (ends 0x0080 0x0000 0x0000 0x0000 0xD000 0xC007 12) = true := by decide

theorem test_C9_jr_nc_not_taken : runs (cpu 0x0010 0x0000 0x0000 0x0000 0xD000) [0x30, 0x05]
    (ends 0x0010 0x0000 0x0000 0x0000 0xD000 0xC002 8) = true := by decide

theorem test_C10_call : runs (cpu 0x0000 0x0000 0x0000 0x0000 0xD000 |>.setPc 0xC100) [0xCD, 0x50, 0x01]
    (fun t => ends 0x0000 0x0000 0x0000 0x0000 0xCFFE 0x0150 24 t && memRead t 0xCFFE == 0x03 && memRead t 0xCFFF == 0xC1) = true := by decide

theorem test_C12_call_nz_not_taken : runs (cpu 0x0080 0x0000 0x0000 0x0000 0xD000) [0xC4, 0x50, 0x01]
    (ends 0x0080 0x0000 0x0000 0x0000 0xD000 0xC003 12) = true := by decide

theorem test_C13_call_c_taken : runs (cpu 0x0010 0x0000 0x0000 0x0000 0xD000) [0xDC, 0x50, 0x01]
    (fun t => ends 0x0010 0x0000 0x0000 0x0000 0xCFFE 0x0150 24 t && memRead t 0xCFFE == 0x03 && memRead t 0xCFFF == 0xC0) = true := by decide

theorem test_C14_ret : runs (poke 0xD001 0x01 (poke 0xD000 0x03 (cpu 0x0000 0x0000 0x0000 0x0000 0xD000))) [0xC9]
    (ends 0x0000 0x0000 0x0000 0x0000 0xD002 0x0103 16) = true := by decide

theorem test_C15_ret_z_taken : runs (poke 0xD001 0x01 (poke 0xD000 0x03 (cpu 0x0080 0x0000 0x0000 0x0000 0xD000))) [0xC8]
    (ends 0x0080 0x0000 0x0000 0x0000 0xD002 0x0103 20) = true := by decide

theorem test_C16_ret_nc_not_taken : runs (cpu 0x0010 0x0000 0x0000 0x0000 0xD000) [0xD0]
    (ends 0x0010 0x0000 0x0000 0x0000 0xD000 0xC001 8) = true := by decide

theorem test_C17_rst_38 : runs (cpu 0x0000 0x0000 0x0000 0x0000 0xD000) [0xFF]
    (fun t => ends 0x0000 0x0000 0x0000 0x0000 0xCFFE 0x0038 16 t && memRead t 0xCFFE == 0x01 && memRead t 0xCFFF == 0xC0) = true := by decide

theorem test_C18_reti : runs (poke 0xD001 0x01 (poke 0xD000 0x03 (cpu 0x0000 0x0000 0x0000 0x0000 0xD000))) [0xD9]
    (fun t => ends 0x0000 0x0000 0x0000 0x0000 0xD002 0x0103 16 t && t.ime && t.eiDelay == 0) = true := by decide

/-! System instructions (vectors Y1-Y10). -/

theorem test_Y1_nop : runs (cpu 0x0000 0x0000 0x0000 0x0000 0xD000) [0x00]
    (ends 0x0000 0x0000 0x0000 0x0000 0xD000 0xC001 4) = true := by decide

theorem test_Y2_stop : runs (cpu 0x0000 0x0000 0x0000 0x0000 0xD000) [0x10, 0x00]
    (fun t => ends 0x0000 0x0000 0x0000 0x0000 0xD000 0xC002 4 t && t.stopped) = true := by decide

theorem test_Y3_di : runs { cpu 0x0000 0x0000 0x0000 0x0000 0xD000 with ime := true } [0xF3]
    (fun t => ends 0x0000 0x0000 0x0000 0x0000 0xD000 0xC001 4 t && !t.ime && t.eiDelay == 0) = true := by decide

theorem test_Y4_ei : runs (cpu 0x0000 0x0000 0x0000 0x0000 0xD000) [0xFB]
    (fun t => ends 0x0000 0x0000 0x0000 0x0000 0xD000 0xC001 4 t && !t.ime && t.eiDelay == 1) = true := by decide

theorem test_Y5_di_after_ei : runs { cpu 0x0000 0x0000 0x0000 0x0000 0xD000 with eiDelay := 1 } [0xF3]
    (fun t => ends 0x0000 0x0000 0x0000 0x0000 0xD000 0xC001 4 t && !t.ime && t.eiDelay == 0) = true := by decide

theorem test_Y6_ei_after_ei : runs { cpu 0x0000 0x0000 0x0000 0x0000 0xD000 with eiDelay := 1 } [0xFB]
    (fun t => ends 0x0000 0x0000 0x0000 0x0000 0xD000 0xC001 4 t && t.ime && t.eiDelay == 0) = true := by decide

theorem test_Y7_halt : runs (cpu 0x0000 0x0000 0x0000 0x0000 0xD000) [0x76]
    (fun t => ends 0x0000 0x0000 0x0000 0x0000 0xD000 0xC001 4 t && t.halted && !t.haltBug) = true := by decide

theorem test_Y8_halt_bug : runs { cpu 0x0000 0x0000 0x0000 0x0000 0xD000 with regIE := 0x01, regIF := 0x01 } [0x76]
    (fun t => ends 0x0000 0x0000 0x0000 0x0000 0xD000 0xC001 4 t && !t.halted && t.haltBug) = true := by decide

theorem test_Y9_halt_source : runs { cpu 0x0000 0x0000 0x0000 0x0000 0xD000 with regIE := 0x01, regIF := 0x01, params := { Params.default with haltBugMode := .source } } [0x76]
    (fun t => ends 0x0000 0x0000 0x0000 0x0000 0xD000 0xC001 4 t && t.halted && !t.haltBug) = true := by decide

theorem test_Y10_illegal : runs (cpu 0x0000 0x0000 0x0000 0x0000 0xD000) [0xD3]
    (fun t => t.fault == some (.illegalOpcode 0xC000 0xD3) && t.regs.pc == 0xC000) = true := by decide

/-! Interrupts and power states (vectors I1-I13). -/

theorem test_I1_dispatch : runs { cpu 0x0000 0x0000 0x0000 0x0000 0xD000 with ime := true, regIE := 0x1F, regIF := 0x06 } [0x00]
    (fun t => ends 0x0000 0x0000 0x0000 0x0000 0xCFFE 0x0048 12 t && t.regIF == 0x04 && !t.ime && memRead t 0xCFFE == 0x00 && memRead t 0xCFFF == 0xC0) = true := by decide

theorem test_I3_vblank_first : runs { cpu 0x0000 0x0000 0x0000 0x0000 0xD000 with ime := true, regIE := 0x01, regIF := 0x1F } [0x00]
    (fun t => ends 0x0000 0x0000 0x0000 0x0000 0xCFFE 0x0040 12 t && t.regIF == 0x1E) = true := by decide

theorem test_I4_ime_clear : runs { cpu 0x0000 0x0000 0x0000 0x0000 0xD000 with regIE := 0x04, regIF := 0x04 } [0x00]
    (fun t => ends 0x0000 0x0000 0x0000 0x0000 0xD000 0xC001 4 t && t.regIF == 0x04) = true := by decide

theorem test_I5_high_bits : runs { cpu 0x0000 0x0000 0x0000 0x0000 0xD000 with ime := true, regIE := 0xE0, regIF := 0xE0 } [0x00]
    (ends 0x0000 0x0000 0x0000 0x0000 0xD000 0xC001 4) = true := by decide

theorem test_I6_halt_idle : runs { cpu 0x0000 0x0000 0x0000 0x0000 0xD000 with halted := true } [0x00]
    (fun t => ends 0x0000 0x0000 0x0000 0x0000 0xD000 0xC000 4 t && t.halted) = true := by decide

theorem test_I7_halt_wake : runs { cpu 0x0100 0x0000 0x0000 0x0000 0xD000 with halted := true, regIE := 0x01, regIF := 0x01 } [0x3C]
    (fun t => ends 0x0200 0x0000 0x0000 0x0000 0xD000 0xC001 4 t && !t.halted && !t.haltBug) = true := by decide

theorem test_I8_halt_wake_source : runs { cpu 0x0100 0x0000 0x0000 0x0000 0xD000 with
    halted := true, regIE := 0x01, regIF := 0x01, params := { Params.default with haltBugMode := .source } } [0x3C]
    (fun t => ends 0x0200 0x0000 0x0000 0x0000 0xD000 0xC000 4 t && !t.halted && !t.haltBug) = true := by decide

theorem test_I9_halt_dispatch : runs { cpu 0x0000 0x0000 0x0000 0x0000 0xD000 with ime := true, halted := true, regIE := 0x04, regIF := 0x04 } [0x00]
    (fun t => ends 0x0000 0x0000 0x0000 0x0000 0xCFFE 0x0050 12 t && t.regIF == 0x00 && !t.halted) = true := by decide

theorem test_I10_dispatch_under_halt_bug : runs { cpu 0x0000 0x0000 0x0000 0x0000 0xD000 with ime := true, haltBug := true, regIE := 0x01, regIF := 0x01 } [0x00]
    (fun t => ends 0x0000 0x0000 0x0000 0x0000 0xCFFE 0x0040 12 t && !t.haltBug && memRead t 0xCFFE == 0xFF && memRead t 0xCFFF == 0xBF) = true := by decide

theorem test_I11_fault_before_dispatch : runs { cpu 0x0000 0x0000 0x0000 0x0000 0xD000 with ime := true, halted := true, regIE := 0x01, regIF := 0x01 } [0xD3]
    (fun t => t.fault == some (.illegalOpcode 0xC000 0xD3) && t.halted && t.ime) = true := by decide

theorem test_I12_stop_idle : runs { cpu 0x0000 0x0000 0x0000 0x0000 0xD000 with stopped := true } [0x00]
    (fun t => ends 0x0000 0x0000 0x0000 0x0000 0xD000 0xC000 4 t && t.stopped) = true := by decide

theorem test_I13_stop_wake : runs { cpu 0x0000 0x0000 0x0000 0x0000 0xD000 with stopped := true, regIF := 0x10 } [0x00]
    (fun t => ends 0x0000 0x0000 0x0000 0x0000 0xD000 0xC001 4 t && !t.stopped) = true := by decide

/-- R485's own examples: `3E 14` under the halt bug loads 0x3E, and a CB prefix runs `SET 1,E`. -/
theorem test_halt_bug_operand : runs { cpu 0x0000 0x0000 0x0000 0x0000 0xD000 with haltBug := true } [0x3E, 0x14]
    (ends 0x3E00 0x0000 0x0000 0x0000 0xD000 0xC001 8) = true := by decide
theorem test_halt_bug_cb : runs { cpu 0x0000 0x0000 0x0000 0x0000 0xD000 with haltBug := true } [0xCB, 0x37]
    (ends 0x0000 0x0000 0x0002 0x0000 0xD000 0xC001 8) = true := by decide

/-- A faulted state has no next state (R452). -/
theorem test_faulted : answers { State.reset with fault := some (.illegalOpcode 0x0101 0xD3) } = false := by decide

/-! ## Devices -/

/-- The timer of a state. -/
def timer (div tima tma tac : Byte) (divSub timaSub : Nat) (pending : Bool) : State :=
  { State.reset with timer := ⟨div, tima, tma, tac, divSub, timaSub, pending⟩ }

theorem test_T1_overflow : timerAdvance 4 (timer 0 0xFF 0x80 0x05 0 12 false) = timer 0 0x00 0x80 0x05 4 0 true := by decide
theorem test_T1_reload : timerAdvance 4 (timer 0 0x00 0x80 0x05 4 0 true) =
    { timer 0 0x80 0x80 0x05 8 4 false with regIF := 0x04 } := by decide
theorem test_T2_two_increments : timerAdvance 24 (timer 0 0xFF 0 0x05 0 8 false) = timer 0 0x01 0 0x05 24 0 true := by decide
theorem test_T3_slowest : timerAdvance 4 (timer 0 0x10 0 0x04 0 1020 false) = timer 0 0x11 0 0x04 4 0 false := by decide
theorem test_T4_stopped : timerAdvance 24 (timer 0 0x10 0 0x03 0 5 false) = timer 0 0x10 0 0x03 24 5 false := by decide
theorem test_T5_div : timerAdvance 8 (timer 0x41 0 0 0 252 0 false) = timer 0x42 0 0 0 4 0 false := by decide
theorem test_T6_write_div : memWrite 0xFF04 0x99 (timer 0x41 0 0 0 100 7 false) = timer 0 0 0 0 0 7 false := by decide
theorem test_T7_write_tima : (timerAdvance 4 (memWrite 0xFF05 0x33 (timer 0 0 0x80 0 0 0 true))).timer.tima = 0x80 := by decide
theorem test_T8_write_tma : (timerAdvance 4 (memWrite 0xFF06 0x20 (timer 0 0 0x80 0 0 0 true))).timer.tima = 0x20 := by decide
theorem test_T9_tac : memRead (memWrite 0xFF07 0xFD State.reset) 0xFF07 = 0xFD ∧ timaPeriod 0xFD = 16 := by decide

/-- A state with buttons held. -/
def holding (b : Byte) : State := { State.reset with joypad := ⟨0b11, b⟩ }

theorem test_J1_none : memRead State.reset 0xFF00 = 0xFF := by decide
theorem test_J2_directions : memRead (memWrite 0xFF00 0x20 (holding 0x11)) 0xFF00 = 0xEE := by decide
theorem test_J3_buttons : memRead (memWrite 0xFF00 0x10 (holding 0x11)) 0xFF00 = 0xDE := by decide
theorem test_J4_both : memRead (memWrite 0xFF00 0x00 (holding 0x11)) 0xFF00 = 0xCE := by decide
theorem test_J5_press : (setButtons 0x80 State.reset).regIF = 0x10 ∧ (setButtons 0x80 State.reset).joypad.buttons = 0x80 := by decide
theorem test_J6_release : (setButtons 0x00 (holding 0x80)).regIF = 0x00 := by decide

/-- A cartridge of the given type byte and RAM-size code, with a byte at one more offset. -/
def cartridge (size : Nat) (type ram : Byte) (off : Nat) (v : Byte) : Except LoadError State :=
  State.load Params.default InitMem.zero ⟨size, Cells.set (Cells.set (Cells.set [] off v) 0x147 type) 0x149 ram⟩

/-- What a loaded machine reads at an address after bus writes, in order. -/
def reads (m : Except LoadError State) (writes : List (Word × Byte)) (a : Word) : Option Byte :=
  match m with
  | .ok s => some (memRead (writes.foldl (fun s w => memWrite w.1 w.2 s) s) a)
  | .error _ => none

theorem test_M1_mirror : memRead (memWrite 0xE000 0x5A State.reset) 0xC000 = 0x5A := by decide
theorem test_M2_unmapped : memWrite 0xFEA0 0x77 State.reset = State.reset ∧ memRead State.reset 0xFEA0 = 0 := by decide
theorem test_M3_dma : let t := memWrite 0xFF46 0xC0 (memWrite 0xC09F 0x9F (memWrite 0xC001 0x01 State.reset))
    memRead t 0xFE01 = 0x01 ∧ memRead t 0xFE9F = 0x9F ∧ memRead t 0xFE02 = 0x00 ∧ memRead t 0xFF46 = 0xC0 := by decide +kernel
theorem test_M4_no_banking : reads (cartridge 0x8000 0x00 0 0x4000 0x66) [(0x2000, 0x55)] 0x4000 = some 0x66 := by decide
theorem test_M5_bank_zero : reads (cartridge 0x80000 0x01 0 0x4000 0x66) [(0x2000, 0x00)] 0x4000 = some 0x66 := by decide
theorem test_M6_bank_five : reads (cartridge 0x80000 0x01 0 0x14000 0x66) [(0x2000, 0x05)] 0x4000 = some 0x66 := by decide
theorem test_M7_five_bits : reads (cartridge 0x80000 0x01 0 0x4000 0x66) [(0x2000, 0x21)] 0x4000 = some 0x66 := by decide
theorem test_M8_ram : reads (cartridge 0x8000 0x03 0x02 0 0) [(0x0000, 0x0A), (0xA123, 0x77)] 0xA123 = some 0x77 := by decide
theorem test_M9_ram_disabled :
    reads (cartridge 0x8000 0x03 0x02 0 0) [(0x0000, 0x0A), (0xA123, 0x77), (0x0000, 0x00)] 0xA123 = some 0x00 := by decide
theorem test_M10_low_nibble : reads (cartridge 0x8000 0x03 0x02 0 0) [(0x1000, 0x1A), (0xA123, 0x77)] 0xA123 = some 0x77 := by decide
theorem test_M11_upper_bits : reads (cartridge 0x200000 0x01 0 0x88000 0x66) [(0x2000, 0x02), (0x4000, 0x01)] 0x4000 = some 0x66 := by
  decide
theorem test_M12_bank_mode :
    reads (cartridge 0x200000 0x01 0 0x8000 0x66) [(0x2000, 0x02), (0x4000, 0x01), (0x6000, 0x01)] 0x4000 = some 0x66 := by decide
theorem test_M13_scheme_b : reads (cartridge 0x40000 0x05 0 0xC000 0x66) [(0x2100, 0x13)] 0x4000 = some 0x66 := by decide
theorem test_M14_scheme_b_ram : reads (cartridge 0x40000 0x06 0 0 0) [(0x0000, 0x0A), (0xA000, 0x12)] 0xA200 = some 0x12 := by decide
theorem test_M15_short_image : variantOf (typeByte ⟨0x100, [(0, 0x11)]⟩) = some .noBanking := by decide
theorem test_M16_unknown_type : reads (cartridge 0x8000 0x11 0 0 0) [] 0x0000 = none := by decide

/-- The picture unit one cycle short of a mode's end, advanced by one step of 4 cycles (V1-V5: the entry of each mode). -/
def atEnd (m : Mode) (ly : Byte) : State :=
  { State.reset with ppu := { State.reset.ppu with mode := m, ly := ly, modeClock := m.cycles - 4, lcdc := 0x11 } }
def modeLy (s : State) : Mode × Byte × Nat := (s.ppu.mode, s.ppu.ly, s.ppu.modeClock)

theorem test_V1_transfer : modeLy (ppuAdvance 4 (atEnd .oamScan 0)) = (.transfer, 0, 0) := by decide
theorem test_V2_hblank : modeLy (ppuAdvance 4 (atEnd .transfer 0)) = (.hblank, 0, 0) := by decide
theorem test_V3_next_line : modeLy (ppuAdvance 4 (atEnd .hblank 0)) = (.oamScan, 1, 0) := by decide
theorem test_V4_vblank : let t := ppuAdvance 4 (atEnd .hblank 143)
    modeLy t = (.vblank, 144, 0) ∧ t.regIF = 0x01 ∧ t.out = [.frame []] := by decide
theorem test_V5_next_frame : modeLy (ppuAdvance 4 (atEnd .vblank 153)) = (.oamScan, 0, 0) := by decide
theorem test_V6_stat : memRead State.reset 0xFF41 = 0x06 := by decide
theorem test_V7_lyc : let t := ppuAdvance 4 (memWrite 0xFF41 0x40 State.reset)
    t.regIF = 0x02 ∧ memRead t 0xFF41 = 0x46 := by decide
theorem test_V8_stat_write : memRead (memWrite 0xFF41 0xFF State.reset) 0xFF41 = 0x7E := by decide
theorem test_V10_ly : memRead (memWrite 0xFF44 0x99 State.reset) 0xFF44 = 0x00 := by decide

/-- The picture unit of V11 to V16, with scroll, tile data and OAM. -/
def picture (lcdc scx obp1 : Byte) (vram oam : Memory) : Ppu :=
  { Ppu.reset vram oam with lcdc := lcdc, bgp := 0xE4, scx := scx, obp0 := 0xFF, obp1 := obp1 }
def backPixel (p : Ppu) (px : Nat) : BitVec 2 := paletteShade p.bgp (p.bgColour 0 px)
def spriteOver (q : Params) (attr : Byte) : BitVec 2 :=
  Cells.get (renderSprite q 0 (picture 0x83 0 0 [(16, 0xFF), (17, 0xFF)] (Cells.set [(0, 16), (1, 8), (2, 1)] 3 attr)) 0).fb 0

theorem test_V11_tile : let p := picture 0x91 0 0xFF [(0, 0x80), (1, 0x01)] []
    backPixel p 0 = 1 ∧ backPixel p 7 = 2 ∧ backPixel p 1 = 0 ∧ backPixel p 6 = 0 ∧ backPixel p 8 = 1 ∧ backPixel p 159 = 2 := by decide
theorem test_V12_scroll : let p := picture 0x91 1 0xFF [(0, 0x80), (1, 0x01)] []
    backPixel p 0 = 0 ∧ backPixel p 6 = 2 ∧ backPixel p 7 = 1 := by decide
theorem test_V13_sprite : spriteOver Params.default 0x00 = 3 := by decide +kernel
theorem test_V14_priority : spriteOver Params.default 0x80 = 0 ∧
    spriteOver { Params.default with objBgPriorityMode := .dmg } 0x80 = 3 := by decide +kernel
theorem test_V15_palette : spriteOver Params.default 0x10 = 0 := by decide +kernel
theorem test_V16_signed_tile : let p := picture 0x81 0 0xFF [] []
    p.tileBase 0x80 = 0x8800 ∧ p.tileBase 0x00 = 0x9000 := by decide

/-- Bus writes to the sound registers from reset. -/
def sounds (writes : List (Word × Byte)) : State := writes.foldl (fun s w => memWrite w.1 w.2 s) State.reset

theorem test_N1_trigger : let s := sounds [(0xFF12, 0xF0), (0xFF14, 0x80)]
    s.sound.ch1.ch.enabled = true ∧ s.sound.ch1.ch.length = 64 ∧ s.sound.ch1.env.vol = 15 ∧ memRead s 0xFF26 = 0x81 := by decide
theorem test_N2_length : let c := (sounds [(0xFF12, 0xF0), (0xFF11, 0x3F), (0xFF14, 0xC0)]).sound.ch1.ch
    c.length = 1 ∧ c.enabled = true ∧ c.lengthTick.length = 0 ∧ c.lengthTick.enabled = false := by decide
theorem test_N3_sweep_overflow :
    (sounds [(0xFF10, 0x01), (0xFF12, 0xF0), (0xFF13, 0xFF), (0xFF14, 0x87)]).sound.ch1.ch.enabled = false := by decide
theorem test_N4_dac_off : (sounds [(0xFF12, 0xF0), (0xFF14, 0x80), (0xFF12, 0x07)]).sound.ch1.ch.enabled = false := by decide
theorem test_N5_dac_on : (sounds [(0xFF12, 0xF0), (0xFF14, 0x80), (0xFF12, 0x08)]).sound.ch1.ch.enabled = true := by decide
theorem test_N6_periods : pulsePeriod 0x700 = 1024 ∧ wavePeriod 0x700 = 512 := by decide
theorem test_N7_noise : noisePeriod 0x00 = 8 ∧ noisePeriod 0x21 = 64 := by decide
theorem test_N8_lfsr : lfsrStep false 0x7FFF = 0x3FFF ∧ (lfsrStep false)^[14] 0x7FFF = 0x0001 ∧
    (lfsrStep false)^[15] 0x7FFF = 0x4000 := by decide
theorem test_N9_narrow : lfsrStep true 0x7FFF = 0x3FBF := by decide
/-- Channel 3 enabled over wave RAM 0xAB, with the given NR32 and position. -/
def waveState (nr32 : Byte) (pos : BitVec 5) : Sound :=
  let x := (sounds [(0xFF1A, 0x80), (0xFF30, 0xAB), (0xFF1C, nr32), (0xFF1E, 0x80)]).sound
  { x with ch3 := { x.ch3 with wavePos := pos } }
theorem test_N10_wave : (waveState 0x20 0).waveLevel = 0xA ∧ (waveState 0x20 1).waveLevel = 0xB ∧ (waveState 0x40 0).waveLevel = 0x5 ∧
    (waveState 0x40 1).waveLevel = 0x5 ∧ (waveState 0x00 0).waveLevel = 0 := by decide
theorem test_N11_duty : [0, 1, 2, 3, 4, 5, 6, 7].map (fun k =>
    Pulse.level 0x80 { Pulse.reset with ch := { Channel.reset with enabled := true }, env := { Envelope.reset with vol := 15 }, dutyPos := k }) =
    [15, 0, 0, 0, 0, 15, 15, 15] := by decide
theorem test_N12_muted : (sounds [(0xFF26, 0x00)]).sound.mix = (0, 0) := by decide
theorem test_N13_write_while_off : memRead (sounds [(0xFF26, 0x00), (0xFF12, 0x80)]) 0xFF12 = 0x80 := by decide
theorem test_N14_no_register : memRead State.reset 0xFF15 = 0x00 := by decide
theorem test_N15_envelope : (Envelope.tick ⟨14, true, 1, 1⟩).vol = 15 ∧ (Envelope.tick (Envelope.tick ⟨14, true, 1, 1⟩)).vol = 15 := by
  decide

/-! ## Witnesses: values that meet the hypotheses of each statement -/

/-- A state whose next three bytes, in WRAM, are given. -/
def holdsAtPc (s : State) (bytes : List Byte) : State := placeBytes s.regs.pc bytes s

/-- The machine of the witnesses, with a NOP, then zeros, at PC. -/
def plain : State := cpu 0x0000 0x0000 0x0000 0x0000 0xD000

theorem witness_EncodeOfDecode : decode [0xCD, 0x50, 0x01, 0x99] = .ok (.callA16 0x0150) [0x99] := by decide

theorem witness_ElevenOpcodesHaveNoDescriptor : (0xD3 : Byte) ∈ holes ∧ (0xFD : Byte) ∈ holes ∧ (0xCB : Byte) ∉ holes ∧
    (0xFF : Byte) ∉ holes := by decide

theorem witness_EveryInstructionRetiresByItsDescriptor : CondHolds 0x80 .z ∧ CondHolds 0x00 .nz ∧ CondHolds 0x10 .c ∧ CondHolds 0x00 .nc ∧
    ¬ CondHolds 0x00 .z ∧ ¬ CondHolds 0x80 .nz ∧ ¬ CondHolds 0x00 .c ∧ ¬ CondHolds 0x10 .nc := by
  unfold CondHolds; decide

theorem witness_LoadRegisterFromRegister : Instr.ldBC.shape = .ldRegReg .b .c ∧ Instr.ldAA.shape = .ldRegReg .a .a := by decide

theorem witness_LoadByteFromMemory : Instr.ldBAtHl.shape = .ldRegHl .b ∧ Instr.ldHAtHl.shape = .ldRegHl .h ∧
    Instr.ldAAtBc.shape = .ldABc ∧ Instr.ldAAtDe.shape = .ldADe ∧ (Instr.ldAAtA16 0xFFFF).shape = .ldAAbs 0xFFFF ∧
    (Instr.ldhAAtA8 0xFF).shape = .ldhA 0xFF ∧ Instr.ldAAtC.shape = .ldAHighC := by decide

theorem witness_LoadImmediateOrSp : (Instr.ldAD8 0xFF).shape = .ldRegImm .a 0xFF ∧ (Instr.ldBcD16 0x1234).shape = .ldPairImm .bc 0x1234 ∧
    (Instr.ldDeD16 0).shape = .ldPairImm .de 0 ∧ (Instr.ldHlD16 0xFFFF).shape = .ldPairImm .hl 0xFFFF ∧
    (Instr.ldSpD16 0xFFFE).shape = .ldPairImm .sp 0xFFFE ∧ Instr.ldSpHl.shape = .ldSpHl := by decide

theorem witness_StoreByteToMemory : Instr.ldAtHlH.shape = .ldHlReg .h ∧ (Instr.ldAtHlD8 0x77).shape = .ldHlImm 0x77 ∧
    Instr.ldAtBcA.shape = .ldBcA ∧ Instr.ldAtDeA.shape = .ldDeA ∧ (Instr.ldAtA16A 0xFF46).shape = .ldAbsA 0xFF46 ∧
    (Instr.ldhAtA8A 0x00).shape = .ldhStore 0x00 ∧ Instr.ldAtCA.shape = .ldHighCA := by decide

theorem witness_LoadStoreAndMoveHl : Instr.ldAAtHlInc.shape = .ldAHlInc ∧ Instr.ldAAtHlDec.shape = .ldAHlDec ∧
    Instr.ldAtHlIncA.shape = .ldHlIncA ∧ Instr.ldAtHlDecA.shape = .ldHlDecA := by decide

theorem witness_StoreStackPointerAndPush : (Instr.ldAtA16Sp 0xFFFF).shape = .ldAbsSp 0xFFFF ∧ Instr.pushBc.shape = .push .bc ∧
    Instr.pushDe.shape = .push .de ∧ Instr.pushHl.shape = .push .hl ∧ Instr.pushAf.shape = .push .af := by decide

theorem witness_PopLoadsPair : Instr.popBc.shape = .pop .bc ∧ Instr.popDe.shape = .pop .de ∧ Instr.popHl.shape = .pop .hl ∧
    Instr.popAf.shape = .pop .af := by decide

theorem witness_AddAndAddWithCarry : Instr.addAB.shape = .alu .add (.reg .b) ∧ Instr.addAAtHl.shape = .alu .add .atHl ∧
    (Instr.addAD8 0xFF).shape = .alu .add (.imm 0xFF) ∧ (Instr.adcAD8 0).shape = .alu .adc (.imm 0) ∧
    Instr.adcAA.shape = .alu .adc (.reg .a) ∧ (0x10 : Byte).getLsbD 4 = true := by decide

theorem witness_SubtractAndCompare : Instr.subAtHl.shape = .alu .sub .atHl ∧ (Instr.sbcAD8 0xFF).shape = .alu .sbc (.imm 0xFF) ∧
    Instr.cpA.shape = .alu .cp (.reg .a) ∧ (0x10 : Byte).getLsbD 4 = true := by decide

theorem witness_LogicalOperations : Instr.andB.shape = .alu .and (.reg .b) ∧ Instr.xorA.shape = .alu .xor (.reg .a) ∧
    (Instr.orD8 0).shape = .alu .or (.imm 0) := by decide

theorem witness_IncrementDecrementRegister : Instr.incA.shape = .incReg .a ∧ Instr.decL.shape = .decReg .l := by decide

theorem witness_IncrementDecrementMemory : Instr.incAtHl.shape = .incHl ∧ Instr.decAtHl.shape = .decHl := by decide

theorem witness_DecimalAdjust : Instr.daa.shape = .daa := by decide

theorem witness_ComplementAndCarryOperations : Instr.cpl.shape = .cpl ∧ Instr.scf.shape = .scf ∧ Instr.ccf.shape = .ccf := by decide

theorem witness_AccumulatorRotates : Instr.rlca.shape = .rlca ∧ Instr.rrca.shape = .rrca ∧ Instr.rla.shape = .rla ∧
    Instr.rra.shape = .rra := by decide

theorem witness_AddPairToHl : Instr.addHlBc.shape = .addHl .bc ∧ Instr.addHlHl.shape = .addHl .hl ∧ Instr.addHlSp.shape = .addHl .sp := by
  decide

theorem witness_IncrementDecrementPair : Instr.incSp.shape = .incPair .sp ∧ Instr.decBc.shape = .decPair .bc ∧
    Pair16.bc ≠ Pair16.sp := by decide

theorem witness_AddSignedOffsetToSp : (Instr.addSpE8 0x80).shape = .addSp 0x80 ∧ (Instr.ldHlSpE8 0x7F).shape = .ldHlSp 0x7F := by decide

theorem witness_CbRotates : Instr.rlcB.shape = .rot .rlc (.reg .b) ∧ Instr.rrcAtHl.shape = .rot .rrc .atHl ∧
    Instr.rlA.shape = .rot .rl (.reg .a) ∧ Instr.rrL.shape = .rot .rr (.reg .l) := by decide

theorem witness_CbShiftsAndSwap : Instr.slaB.shape = .rot .sla (.reg .b) ∧ Instr.sraAtHl.shape = .rot .sra .atHl ∧
    Instr.swapA.shape = .rot .swap (.reg .a) ∧ Instr.srlL.shape = .rot .srl (.reg .l) := by decide

theorem witness_BitTest : Instr.bit0B.shape = .bit 0 (.reg .b) ∧ Instr.bit7AtHl.shape = .bit 7 .atHl := by decide

theorem witness_BitResetAndSet : Instr.res0B.shape = .res 0 (.reg .b) ∧ Instr.res7AtHl.shape = .res 7 .atHl ∧
    Instr.set0A.shape = .set 0 (.reg .a) ∧ Instr.set7AtHl.shape = .set 7 .atHl := by decide

theorem witness_AbsoluteJumps : (Instr.jpA16 0xFFFF).shape = .jp 0xFFFF ∧ Instr.jpHl.shape = .jpHl ∧
    (Instr.jpZA16 0x1234).shape = .jpCond .z 0x1234 ∧ CondHolds 0x80 .z ∧ ¬ CondHolds 0x00 .z := by
  unfold CondHolds; decide

theorem witness_RelativeJumps : (Instr.jrE8 0x80).shape = .jr 0x80 ∧ (Instr.jrNcE8 0x7F).shape = .jrCond .nc 0x7F ∧
    CondHolds 0x00 .nc ∧ ¬ CondHolds 0x10 .nc := by
  unfold CondHolds; decide

theorem witness_Calls : (Instr.callA16 0x0150).shape = .call 0x0150 ∧ (Instr.callCA16 0x0150).shape = .callCond .c 0x0150 ∧
    Instr.rst00.shape = .rst 0 ∧ Instr.rst38.shape = .rst 7 ∧ CondHolds 0x10 .c ∧ ¬ CondHolds 0x00 .c := by
  unfold CondHolds; decide

theorem witness_Returns : Instr.ret.shape = .ret ∧ Instr.retNz.shape = .retCond .nz ∧ Instr.reti.shape = .reti ∧
    CondHolds 0x00 .nz ∧ ¬ CondHolds 0x80 .nz := by
  unfold CondHolds; decide

theorem witness_NoOperationStopAndHalt : Instr.nop.shape = .nop ∧ (Instr.stop 0xFF).shape = .stop 0xFF ∧ Instr.halt.shape = .halt ∧
    (let s := { plain with regIE := 0x10, regIF := 0x10 }
     s.params.haltBugMode = .hardware ∧ s.ime = false ∧ s.regIE &&& s.regIF &&& 0x1F ≠ 0) ∧
    (let s := { plain with regIE := 0xE0, regIF := 0xE0 }; ¬ (s.regIE &&& s.regIF &&& 0x1F ≠ 0)) := by decide

theorem witness_EnableTakesEffectOneInstructionLater : Instr.di.shape = .di ∧ Instr.ei.shape = .ei ∧
    plain.ime = false ∧ plain.eiDelay = 0 ∧ ({ plain with eiDelay := 1 }).ime = false ∧ ({ plain with eiDelay := 1 }).eiDelay = 1 := by
  decide

theorem witness_OnlyNamedInstructionsChangeControlState :
    (match exec .halt plain with | .next t => t.halted != plain.halted | _ => false) = true ∧
    (match exec .di { plain with ime := true, eiDelay := 1 } with | .next t => !t.ime && t.eiDelay == 0 | _ => false) = true ∧
    (match exec (.stop 0) plain with | .next t => t.stopped | _ => false) = true := by decide

theorem witness_StepRunsTheDecodedInstruction : let s := holdsAtPc plain [0xCD, 0x50, 0x01]
    Fetches s ∧ decode (bytesAtPc (awake s)) = .ok (.callA16 0x0150) [] ∧ (awake s).haltBug = false ∧ (awake s).halted = false ∧
    ¬ ((awake s).ime = true ∧ (awake s).pending ≠ 0) := by
  unfold Fetches; decide

theorem witness_HaltBugReadsOneByteEarly :
    (let s := holdsAtPc { plain with haltBug := true } [0x3C, 0x00, 0x00]
     Fetches s ∧ (awake s).haltBug = true ∧ (awake s).halted = false ∧ ¬ ((awake s).ime = true ∧ (awake s).pending ≠ 0) ∧
     decode [memRead (awake s) (awake s).regs.pc, memRead (awake s) (awake s).regs.pc, memRead (awake s) ((awake s).regs.pc + 1)] =
       .ok .incA [0x3C, 0x00]) ∧
    (let s := holdsAtPc { plain with haltBug := true } [0xCB, 0x37, 0x00]
     Fetches s ∧ (awake s).haltBug = true ∧ (awake s).halted = false ∧ ¬ ((awake s).ime = true ∧ (awake s).pending ≠ 0) ∧
     memRead (awake s) (awake s).regs.pc = 0xCB) := by
  unfold Fetches; decide +kernel

theorem witness_IllegalOpcodeFaults : let s := holdsAtPc { plain with halted := true } [0xD3, 0x00, 0x00]
    Fetches s ∧ memRead (awake s) (awake s).regs.pc ∈ holes := by
  unfold Fetches; decide

theorem witness_RunningStatesStepAndFaultedStatesDoNot : State.reset.fault = none ∧
    ({ State.reset with fault := some (.illegalOpcode 0x0101 0xD3) }).fault = some (.illegalOpcode 0x0101 0xD3) := by decide

theorem witness_InterruptDispatch :
    (let s := { plain with ime := true, regIE := 0x1F, regIF := 0x10 }
     FetchesLegal s ∧ (awake s).ime = true ∧ ((awake s).regIE &&& (awake s).regIF &&& 0x1F).getLsbD 4 = true ∧
     ∀ j, j < 4 → ((awake s).regIE &&& (awake s).regIF &&& 0x1F).getLsbD j = false) ∧
    (let s := { plain with ime := true, halted := true, regIE := 0x1F, regIF := 0x1F }
     FetchesLegal s ∧ (awake s).ime = true ∧ ((awake s).regIE &&& (awake s).regIF &&& 0x1F).getLsbD 0 = true) := by
  unfold FetchesLegal Fetches; decide

theorem witness_HaltIdlesAndWakes :
    (let s := { plain with halted := true }
     FetchesLegal s ∧ (awake s).halted = true ∧ (awake s).haltBug = false ∧ (awake s).pending = 0) ∧
    (let s := holdsAtPc { plain with halted := true, regIE := 0x01, regIF := 0x01 } [0x3E, 0x42, 0x00]
     FetchesLegal s ∧ (awake s).halted = true ∧ (awake s).haltBug = false ∧ (awake s).pending ≠ 0 ∧ (awake s).ime = false ∧
     decode (bytesAtPc (awake s)) = .ok (.ldAD8 0x42) [0x00]) ∧
    (let s := holdsAtPc { plain with
        halted := true, regIE := 0x01, regIF := 0x01, params := { Params.default with haltBugMode := .source } } [0x3E, 0x42, 0x00]
     FetchesLegal s ∧ (awake s).halted = true ∧ (awake s).haltBug = false ∧ (awake s).pending ≠ 0 ∧ (awake s).ime = false ∧
     decode [0x3E, 0x3E, memRead (awake s) ((awake s).regs.pc + 1)] = .ok (.ldAD8 0x3E) [0x42]) ∧
    (let s := holdsAtPc { plain with
        halted := true, regIE := 0x01, regIF := 0x01, params := { Params.default with haltBugMode := .source } } [0xCB, 0x37, 0x00]
     FetchesLegal s ∧ (awake s).halted = true ∧ (awake s).haltBug = false ∧ (awake s).pending ≠ 0 ∧ (awake s).ime = false ∧
     memRead (awake s) (awake s).regs.pc = 0xCB ∧ decode (bytesAtPc (awake s)) = .ok .swapA [0x00]) := by
  unfold FetchesLegal Fetches; decide +kernel

theorem witness_StopIdlesAndWakes :
    (let s := { plain with stopped := true }
     s.fault = none ∧ (beginStep s).stopped = true ∧ (beginStep s).regIF.getLsbD 4 = false) ∧
    (let s := { plain with stopped := true, regIF := 0x10 }
     s.fault = none ∧ (beginStep s).stopped = true ∧ (beginStep s).regIF.getLsbD 4 = true ∧
     memRead (awake s) (awake s).regs.pc ∉ holes) := by decide

/-- The first and the last address of every range, and a pair of mirrored addresses. -/
theorem witness_StorageHoldsWhatIsWritten :
    (∀ a ∈ [0x8000, 0x9FFF, 0xC000, 0xFE9F, 0xFF0F, 0xFF80, 0xFFFF], (0x8000 ≤ a ∧ a < 0xA000) ∨ (0xC000 ≤ a ∧ a < 0xFEA0) ∨
      a = 0xFF0F ∨ 0xFF80 ≤ a) ∧
    (0xFDFF % 0x2000 = 0xDDFF % 0x2000 ∧ (0xDDFF : Word) ≠ 0xFDFF) ∧
    (∀ a ∈ [0xFEA0, 0xFEFF, 0xFF01, 0xFF03, 0xFF08, 0xFF0E, 0xFF27, 0xFF2F, 0xFF4C, 0xFF7F],
      (0xFEA0 ≤ a ∧ a < 0xFF00) ∨ (0xFF01 ≤ a ∧ a < 0xFF04) ∨ (0xFF08 ≤ a ∧ a < 0xFF0F) ∨ (0xFF27 ≤ a ∧ a < 0xFF30) ∨
      (0xFF4C ≤ a ∧ a < 0xFF80)) := by decide

theorem witness_RomVariantAndParametersNeverChange : (0x7FFF : Word).toNat < 0x8000 ∧
    State.reset.cart.rom.size ≤ State.reset.cart.romOffset (0x7FFF : Word).toNat ∧ answers State.reset = true := by decide

theorem witness_DmaCopiesPageToOam : 159 < 160 ∧ 0xFF * 256 + 159 < 65536 := by decide

/-- A cartridge of each scheme with RAM, and the RAM enabled or not. -/
theorem witness_SchemeABanking :
    (let s := State.construct Params.default InitMem.zero { Cart.reset ⟨0, []⟩ .schemeA 8192 [] with ramEnabled := true }
     s.cart.variant = .schemeA ∧ s.cart.ramEnabled = true ∧ 0xBFFF - 0xA000 < s.cart.ramSize) ∧
    (let s := State.construct Params.default InitMem.zero (Cart.reset ⟨0, []⟩ .schemeA 2048 [])
     s.cart.variant = .schemeA ∧ ¬ (s.cart.ramEnabled = true)) ∧
    (0x1FFF < 0x2000 ∧ 0x2000 ≤ 0x3FFF ∧ 0x3FFF < 0x4000 ∧ 0x4000 ≤ 0x5FFF ∧ 0x5FFF < 0x6000 ∧ 0x6000 ≤ 0x7FFF ∧ 0x7FFF < 0x8000) := by
  decide

theorem witness_SchemeBBanking :
    (let s := State.construct Params.default InitMem.zero { Cart.reset ⟨0, []⟩ .schemeB 512 [] with ramEnabled := true }
     s.cart.variant = .schemeB ∧ s.cart.ramEnabled = true) ∧
    (0x3EFF : Word).getLsbD 8 = false ∧ (0x3FFF : Word).getLsbD 8 = true ∧
    (let s := State.construct Params.default InitMem.zero (Cart.reset ⟨0, []⟩ .noBanking 2048 [])
     s.cart.variant = .noBanking ∧ 0x7FFF < 0x8000 ∧ 0xA7FF - 0xA000 < s.cart.ramSize ∧ s.cart.ramSize ≤ 0xA800 - 0xA000) ∧
    (imageByte ⟨0x150, [(0x147, 0x09)]⟩ 0x147).toNat ∈ [0x00, 0x08, 0x09] ∧
    (imageByte ⟨0x150, [(0x147, 0x01)]⟩ 0x147).toNat ∈ [0x01, 0x02, 0x03] ∧
    (imageByte ⟨0x150, [(0x147, 0x06)]⟩ 0x147).toNat ∈ [0x05, 0x06] ∧
    (imageByte ⟨0x150, [(0x147, 0x04)]⟩ 0x147).toNat ∉ [0x00, 0x01, 0x02, 0x03, 0x05, 0x06, 0x08, 0x09] := by decide

theorem witness_JoypadLinesAndRequests : 3 < 4 ∧ ({ State.reset with buttonsIn := [0x80] }).buttonsIn = 0x80 :: [] := by decide

theorem witness_PictureUnitTransitions : ¬ (80 ≤ 79) ∧ 80 ≤ (atEnd .oamScan 0).ppu.modeClock + 4 ∧
    (let s : State := { atEnd .transfer 0 with ppu := { (atEnd .transfer 0).ppu with lcdc := 0x91 } }
     172 ≤ s.ppu.modeClock + 4 ∧ s.ppu.mode = .transfer ∧ s.ppu.lcdc.getLsbD 7 = true) ∧
    ¬ ((atEnd .transfer 0).ppu.mode = .transfer ∧ (atEnd .transfer 0).ppu.lcdc.getLsbD 7 = true) := by decide

theorem witness_BackgroundLineIsRendered : (143 : Byte).toNat < 144 ∧ 159 < 160 ∧ 160 * 143 + 160 ≤ 23040 := by decide

theorem witness_LastSpriteWins : (0 : Byte).toNat < 144 ∧ 0 < 160 ∧
    (spriteShade Params.default (picture 0x83 0 0 [(16, 0xFF), (17, 0xFF)] [(0, 16), (1, 8), (2, 1)]) 0 0 0).isSome = true := by decide

theorem witness_TriggerOfChannelOne : (0x80 : Byte).getLsbD 7 = true ∧ (0x7F : Byte).getLsbD 7 = false ∧ 15 < 16 ∧
    (0xFF30 + BitVec.ofNat 16 15 : Word) = 0xFF3F := by decide

theorem witness_LengthAndEnvelopeTicks :
    (let c : Channel := ⟨true, 0, true, 1⟩; c.lengthEnabled = true ∧ 0 < c.length) ∧
    (let c : Channel := ⟨true, 0, true, 0⟩; ¬ (c.lengthEnabled = true ∧ 0 < c.length)) ∧
    (let e : Envelope := ⟨15, true, 1, 1⟩; e.period ≠ 0 ∧ e.timer = 1) ∧ (let e : Envelope := ⟨0, false, 7, 2⟩; e.period ≠ 0 ∧ e.timer ≠ 1) ∧
    (let e : Envelope := ⟨0, false, 0, 0⟩; e.period = 0) ∧
    (let x : Sound := { Sound.reset [] with fsAcc := 8188, fsStep := 6 }
     sequencerFires x 3 [0, 2, 4, 6] = false ∧ sequencerFires x 4 [0, 2, 4, 6] = true ∧ sequencerFires x 4 [2, 6] = true ∧
     sequencerFires x 4 [7] = false) := by decide

theorem witness_FrequencyTimerAndLfsr : (timerAdvanceBy 24 8 0).2 ≠ 0 ∧ (timerAdvanceBy 4 8 5).2 = 0 ∧ 14 < 15 := by decide

/-- One pulse channel and its parameters for each case: off, counting, period 0, overflow, shift 0, and a write-back. -/
theorem witness_SweepTick :
    (let c (timer : Int) (shadow : BitVec 11) : Pulse := { Pulse.reset with sweep := ⟨true, shadow, timer⟩ }
     Pulse.reset.sweep.enabled = false ∧ (1 < (c 2 0).sweep.timer) ∧ (c 1 0).sweep.timer ≤ 1 ∧ sweepParams2.period = 0 ∧
     2047 < sweptFrequency ⟨7, false, 1⟩ (c 1 0x7FF).sweep.shadow.toNat ∧
     sweptFrequency ⟨1, true, 0⟩ (c 1 0x7FF).sweep.shadow.toNat ≤ 2047 ∧
     sweptFrequency ⟨1, false, 1⟩ (c 1 0x555).sweep.shadow.toNat = 2047 ∧
     2047 < sweptFrequency ⟨1, false, 1⟩ 2047) := by decide

theorem witness_SamplesAtTheCadence : 0 < State.reset.params.samplePeriodNum ∧ State.reset.sound.regs.master = true ∧
    (sounds [(0xFF26, 0x00)]).sound.regs.master = false := by decide

/-- A running state that meets the invariant and has a next state. -/
theorem witness_StepKeepsInv : plain.Inv ∧ answers plain = true := by
  refine ⟨⟨?_, ?_, ?_, ?_, ?_, ?_, ?_, ?_⟩, by decide⟩
  · unfold flagsOk; decide
  · unfold memoriesOk; decide
  · unfold cartOk; decide
  · unfold pictureOk; decide
  · unfold timerOk; decide
  · unfold soundOk; decide
  · unfold dacOk; decide
  · unfold controlOk; decide

end Sys2Proof.Tests
end

namespace Sys2Proof.Machine

/-! ## The values at reset

The registers of R48 and R41 do not depend on the launch inputs: each lemma holds of the state that construction leaves for any
parameters, memories and cartridge, device by device. -/

section ResetValues

variable (p : Params) (m : InitMem) (cart : Cart)

/-- The CPU of a constructed machine runs with R48's registers and no interrupt, power or fault state set. -/
theorem cpu_construct :
    let s := State.construct p m cart
    s.regs = ⟨0x01, 0xB0, 0x00, 0x13, 0x00, 0xD8, 0x01, 0x4D, 0xFFFE, 0x0100⟩ ∧
    s.ime = false ∧ s.eiDelay = 0 ∧ s.halted = false ∧ s.stopped = false ∧ s.haltBug = false ∧ s.fault = none :=
  ⟨rfl, rfl, rfl, rfl, rfl, rfl, rfl⟩

/-- P1 selects neither group of lines, so its four lines read as 1 (R46). -/
theorem memRead_construct_joypad : memRead (State.construct p m cart) 0xFF00 = 0xFF := by
  change Joypad.reset.read = 0xFF
  decide

theorem memRead_construct_timer :
    let s := State.construct p m cart
    memRead s 0xFF04 = 0 ∧ memRead s 0xFF05 = 0 ∧ memRead s 0xFF06 = 0 ∧ memRead s 0xFF07 = 0 :=
  ⟨rfl, rfl, rfl, rfl⟩

theorem memRead_construct_interrupts :
    let s := State.construct p m cart
    memRead s 0xFF0F = 0 ∧ memRead s 0xFFFF = 0 :=
  ⟨rfl, rfl⟩

/-- NR52 shows the master switch on and no channel enabled, whatever the wave RAM holds (R621). -/
theorem memRead_construct_nr52 : memRead (State.construct p m cart) 0xFF26 = 0x80 := by
  change (Sound.reset []).read .nr52 = 0x80
  decide

/-- STAT shows mode 2 and LY = LYC, with no interrupt source selected, whatever the memories hold (R41, R44). -/
theorem memRead_construct_stat : memRead (State.construct p m cart) 0xFF41 = 0x06 := by
  change (Ppu.reset [] []).readStat = 0x06
  decide

/-- The picture unit's registers other than STAT, the DMA page at 0xFF46 among them, read as stored. -/
theorem memRead_construct_picture :
    let s := State.construct p m cart
    memRead s 0xFF40 = 0x91 ∧ memRead s 0xFF42 = 0 ∧ memRead s 0xFF43 = 0 ∧ memRead s 0xFF44 = 0 ∧ memRead s 0xFF45 = 0 ∧
    memRead s 0xFF46 = 0 ∧ memRead s 0xFF47 = 0xFC ∧ memRead s 0xFF48 = 0xFF ∧ memRead s 0xFF49 = 0xFF ∧
    memRead s 0xFF4A = 0 ∧ memRead s 0xFF4B = 0 :=
  ⟨rfl, rfl, rfl, rfl, rfl, rfl, rfl, rfl, rfl, rfl, rfl⟩

theorem lfsr_construct : (State.construct p m cart).sound.ch4.lfsr = 0x7FFF := rfl

end ResetValues

/-- Settles O58: the reset state is a constructed one, so each device's lemma gives its registers; the ROM bank is the cartridge's
own (R47). -/
theorem resetValues : Obligations.ResetValues := by
  unfold Obligations.ResetValues State.reset
  let cart := Cart.reset ⟨0, []⟩ .noBanking 0 []
  obtain ⟨regs, ime, eiDelay, halted, stopped, haltBug, fault⟩ := cpu_construct Params.default InitMem.zero cart
  obtain ⟨div, tima, tma, tac⟩ := memRead_construct_timer Params.default InitMem.zero cart
  obtain ⟨intFlag, intEnable⟩ := memRead_construct_interrupts Params.default InitMem.zero cart
  obtain ⟨lcdc, scy, scx, ly, lyc, dma, bgp, obp0, obp1, wy, wx⟩ := memRead_construct_picture Params.default InitMem.zero cart
  exact ⟨regs, ime, eiDelay, halted, stopped, haltBug, fault, memRead_construct_joypad .., div, tima, tma, tac, intFlag,
    memRead_construct_nr52 .., lcdc, memRead_construct_stat .., scy, scx, ly, lyc, dma, bgp, obp0, obp1, wy, wx, intEnable,
    lfsr_construct .., rfl⟩

end Sys2Proof.Machine

namespace Sys2Proof.Machine

/-! ## The address map, range by range (R82) -/

section AddressMap

variable {a : Word}

theorem region_rom (h : a.toNat < 0x8000) : region a = .rom a.toNat := by
  unfold region
  simp only
  rw [if_pos h]

theorem region_vram (h₁ : 0x8000 ≤ a.toNat) (h₂ : a.toNat < 0xA000) : region a = .vram (a.toNat - 0x8000) := by
  unfold region
  simp only
  rw [if_neg (by omega), if_pos h₂]

theorem region_cartRam (h₁ : 0xA000 ≤ a.toNat) (h₂ : a.toNat < 0xC000) : region a = .cartRam (a.toNat - 0xA000) := by
  unfold region
  simp only
  rw [if_neg (by omega), if_neg (by omega), if_pos h₂]

/-- WRAM and its mirror reach one memory of 0x2000 bytes. -/
theorem region_wram (h₁ : 0xC000 ≤ a.toNat) (h₂ : a.toNat < 0xFE00) : region a = .wram (a.toNat % 0x2000) := by
  unfold region
  simp only
  rw [if_neg (by omega), if_neg (by omega), if_neg (by omega)]
  by_cases h : a.toNat < 0xE000
  · rw [if_pos h]
    exact congrArg Region.wram (by omega)
  · rw [if_neg h, if_pos h₂]
    exact congrArg Region.wram (by omega)

theorem region_oam (h₁ : 0xFE00 ≤ a.toNat) (h₂ : a.toNat < 0xFEA0) : region a = .oam (a.toNat - 0xFE00) := by
  unfold region
  simp only
  iterate 5 rw [if_neg (by omega)]
  exact if_pos h₂

theorem region_unused (h₁ : 0xFEA0 ≤ a.toNat) (h₂ : a.toNat < 0xFF00) : region a = .unmapped := by
  unfold region
  simp only
  iterate 6 rw [if_neg (by omega)]
  exact if_pos h₂

theorem region_io (h₁ : 0xFF00 ≤ a.toNat) (h₂ : a.toNat < 0xFF80) : region a = ioRegion (a.toNat - 0xFF00) := by
  unfold region
  simp only
  iterate 7 rw [if_neg (by omega)]
  exact if_pos h₂

theorem region_hram (h₁ : 0xFF80 ≤ a.toNat) (h₂ : a.toNat < 0xFFFF) : region a = .hram (a.toNat - 0xFF80) := by
  unfold region
  simp only
  iterate 8 rw [if_neg (by omega)]
  exact if_pos h₂

theorem region_unmapped
    (h : (0xFEA0 ≤ a.toNat ∧ a.toNat < 0xFF00) ∨ (0xFF01 ≤ a.toNat ∧ a.toNat < 0xFF04) ∨ (0xFF08 ≤ a.toNat ∧ a.toNat < 0xFF0F) ∨
      (0xFF27 ≤ a.toNat ∧ a.toNat < 0xFF30) ∨ (0xFF4C ≤ a.toNat ∧ a.toNat < 0xFF80)) : region a = .unmapped := by
  have io : ∀ k < 0x80, (0x01 ≤ k ∧ k < 0x04) ∨ (0x08 ≤ k ∧ k < 0x0F) ∨ (0x27 ≤ k ∧ k < 0x30) ∨ 0x4C ≤ k →
      ioRegion k = .unmapped := by decide
  by_cases h₁ : a.toNat < 0xFF00
  · exact region_unused (by omega) h₁
  · rw [region_io (by omega) (by omega)]
    exact io _ (by omega) (by omega)

/-- Two addresses of one WRAM byte. -/
theorem region_mirror {b : Word}
    (h : 0xC000 ≤ a.toNat ∧ a.toNat < 0xFE00 ∧ 0xC000 ≤ b.toNat ∧ b.toNat < 0xFE00 ∧ a.toNat % 0x2000 = b.toNat % 0x2000) :
    region b = region a := by
  obtain ⟨ha₁, ha₂, hb₁, hb₂, hab⟩ := h
  rw [region_wram ha₁ ha₂, region_wram hb₁ hb₂, hab]

end AddressMap

/-! ## Cells: the regions that hold the byte last written to them -/

/-- The lowest address of a cell of VRAM, WRAM, OAM or HRAM, or of IF or IE (R82, R471). -/
def Region.cell : Region → Option Nat
  | .vram off => some (0x8000 + off)
  | .wram off => some (0xC000 + off)
  | .oam off => some (0xFE00 + off)
  | .hram off => some (0xFF80 + off)
  | .intFlag => some 0xFF0F
  | .intEnable => some 0xFFFF
  | _ => none

/-- IF is the only cell among the I/O registers. -/
theorem cell_ioRegion : ∀ k < 0x80, (ioRegion k).cell = if k = 0x0F then some 0xFF0F else none := by decide

/-- A cell is reached at its lowest address and, in WRAM, at the mirror of it (R82, R83). -/
theorem toNat_of_cell {a : Word} {n : Nat} (h : (region a).cell = some n) :
    a.toNat = n ∨ (0xE000 ≤ a.toNat ∧ a.toNat < 0xFE00 ∧ a.toNat = n + 0x2000) := by
  have := a.isLt
  by_cases hio : 0xFF00 ≤ a.toNat ∧ a.toNat < 0xFF80
  · rw [region_io hio.1 hio.2, cell_ioRegion _ (by omega), Option.ite_none_right_eq_some, Option.some.injEq] at h
    omega
  · unfold region at h
    simp only at h
    split_ifs at h <;> simp only [Region.cell, Option.some.injEq, reduceCtorEq] at h <;> omega

theorem cell_of_storage {a : Word}
    (h : (0x8000 ≤ a.toNat ∧ a.toNat < 0xA000) ∨ (0xC000 ≤ a.toNat ∧ a.toNat < 0xFEA0) ∨ a = 0xFF0F ∨ 0xFF80 ≤ a.toNat) :
    ∃ n, (region a).cell = some n := by
  rcases h with ⟨h₁, h₂⟩ | ⟨h₁, h₂⟩ | rfl | h₁
  · exact ⟨_, congrArg Region.cell (region_vram h₁ h₂)⟩
  · by_cases h₃ : a.toNat < 0xFE00
    · exact ⟨_, congrArg Region.cell (region_wram h₁ h₃)⟩
    · exact ⟨_, congrArg Region.cell (region_oam (by omega) h₂)⟩
  · exact ⟨_, rfl⟩
  · by_cases h₂ : a.toNat < 0xFFFF
    · exact ⟨_, congrArg Region.cell (region_hram h₁ h₂)⟩
    · obtain rfl : a = 0xFFFF := by bv_omega
      exact ⟨_, rfl⟩

/-- Two addresses of one cell are the same address or mirrors of each other. -/
theorem same_or_mirror_of_region_eq {a b : Word} {n : Nat} (ha : (region a).cell = some n) (h : region a = region b) :
    b = a ∨ (0xC000 ≤ a.toNat ∧ a.toNat < 0xFE00 ∧ 0xC000 ≤ b.toNat ∧ b.toNat < 0xFE00 ∧
      a.toNat % 0x2000 = b.toNat % 0x2000) := by
  have hb := toNat_of_cell (h ▸ ha)
  have ha := toNat_of_cell ha
  by_cases hba : b.toNat = a.toNat
  · exact .inl (BitVec.eq_of_toNat_eq hba)
  · right
    omega

theorem readRegion_writeRegion_cell {x : Region} {n : Nat} (h : x.cell = some n) (s : State) (v : Byte) :
    readRegion (writeRegion s v x) x = v := by
  cases x with
  | vram | wram | oam | hram => exact Cells.get_set_same ..
  | intFlag | intEnable => rfl
  | _ => cases h

/-- A write to a cell affects no other region. -/
theorem writeAffects_cell {x : Region} {n : Nat} (h : x.cell = some n) (s : State) (y : Region) :
    writeAffects s x y = (x == y) := by
  cases x with
  | vram | wram | oam | hram | intFlag | intEnable => rfl
  | _ => cases h

/-- A write to a cell is read back there and at its mirror, and every other address reads as before (R82, R85). -/
theorem memRead_memWrite_storage (s : State) (a : Word) (v : Byte)
    (h : (0x8000 ≤ a.toNat ∧ a.toNat < 0xA000) ∨ (0xC000 ≤ a.toNat ∧ a.toNat < 0xFEA0) ∨ a = 0xFF0F ∨ 0xFF80 ≤ a.toNat) :
    memRead (memWrite a v s) a = v ∧
    (∀ b : Word, b ≠ a → ¬ (0xC000 ≤ a.toNat ∧ a.toNat < 0xFE00 ∧ 0xC000 ≤ b.toNat ∧ b.toNat < 0xFE00 ∧
        a.toNat % 0x2000 = b.toNat % 0x2000) → memRead (memWrite a v s) b = memRead s b) ∧
    (∀ b : Word, (0xC000 ≤ a.toNat ∧ a.toNat < 0xFE00 ∧ 0xC000 ≤ b.toNat ∧ b.toNat < 0xFE00 ∧
        a.toNat % 0x2000 = b.toNat % 0x2000) → memRead (memWrite a v s) b = v) := by
  obtain ⟨n, hn⟩ := cell_of_storage h
  have same : readRegion (memWrite a v s) (region a) = v := readRegion_writeRegion_cell hn s v
  refine ⟨same, fun b hb hm => memRead_memWrite_other s a b v ?_, fun b hm => ?_⟩
  · unfold storeAffects
    rw [writeAffects_cell hn, beq_eq_false_iff_ne]
    intro e
    exact (same_or_mirror_of_region_eq hn e).elim hb hm
  · unfold memRead
    rw [region_mirror hm, same]

/-- An unmapped address reads 0 and ignores writes (R84). -/
theorem bus_unmapped {a : Word} (h : region a = .unmapped) (s : State) (v : Byte) : memRead s a = 0 ∧ memWrite a v s = s := by
  unfold memRead memWrite
  rw [h]
  exact ⟨rfl, rfl⟩

/-! ## STAT (R552) -/

theorem toNat_append_eq_add {m n : Nat} (x : BitVec m) (y : BitVec n) : (x ++ y).toNat = x.toNat * 2 ^ n + y.toNat := by
  rw [BitVec.toNat_append, ← Nat.shiftLeft_add_eq_or_of_lt y.isLt, Nat.shiftLeft_eq]

theorem toNat_readStat (p : Ppu) :
    p.readStat.toNat = p.statSrc.toNat * 8 + (if p.coincidence = true then 4 else 0) + p.mode.number.toNat := by
  have mode : p.readStat.toNat = ((0 : BitVec 1) ++ p.statSrc ++ BitVec.ofBool p.coincidence).toNat * 4 + p.mode.number.toNat :=
    toNat_append_eq_add ..
  rw [mode, toNat_append_eq_add, toNat_append_eq_add]
  cases p.coincidence <;> simp <;> omega

theorem writeStat_eq (p : Ppu) (v : Byte) : p.writeStat v = { p with statSrc := BitVec.ofNat 4 (v.toNat / 8) } := by
  unfold Ppu.writeStat Byte.field BitVec.extractLsb'
  rw [Nat.shiftRight_eq_div_pow]

/-- Settles O42: storage by its cells, an unmapped address by its region, and each register of the picture unit by the bus's own
arm for it; STAT's bits are those of `readStat` and `writeStat`. -/
theorem storageHoldsWhatIsWritten : Obligations.StorageHoldsWhatIsWritten := by
  unfold Obligations.StorageHoldsWhatIsWritten
  intro s a v
  have writeStat : memWrite 0xFF41 v s = { s with ppu := s.ppu.writeStat v } := rfl
  have readStat : memRead s 0xFF41 = s.ppu.readStat := rfl
  refine ⟨memRead_memWrite_storage s a v, fun h => bus_unmapped (region_unmapped h) s v, ⟨rfl, rfl⟩, ⟨?_, ?_⟩, ⟨rfl, rfl⟩,
    ⟨rfl, rfl⟩, ⟨rfl, rfl⟩, ⟨rfl, rfl⟩, ⟨rfl, rfl⟩, ⟨rfl, rfl⟩, ⟨rfl, rfl⟩, ⟨rfl, rfl⟩, ⟨rfl, rfl⟩⟩
  · rw [writeStat, writeStat_eq]
  · rw [readStat, toNat_readStat]
    cases s.ppu.mode <;> rfl

/-! ## DMA (R110, R111) -/

/-- The source of the DMA's turn `k` is byte `k` of page `v`. -/
theorem toNat_dmaSource (v : Byte) {k : Nat} (hk : k < 160) : (v ++ (0 : Byte) + BitVec.ofNat 16 k).toNat = v.toNat * 256 + k := by
  have hv := v.isLt
  have page : (v ++ (0 : Byte)).toNat = v.toNat * 256 := by
    rw [toNat_append_eq_add]
    simp
  rw [BitVec.toNat_add, page, BitVec.toNat_ofNat]
  omega

/-- Turn `k` reads what it would have read before the turns below it, also from page 0xFE: of OAM it reads only byte `k`. -/
theorem memRead_dmaSource (v : Byte) {k : Nat} (hk : k < 160) (s : State) :
    memRead ((List.range k).foldl (dmaByte v) s) (v ++ (0 : Byte) + BitVec.ofNat 16 k) =
      memRead s (v ++ (0 : Byte) + BitVec.ofNat 16 k) := by
  have toNat := toNat_dmaSource v hk
  generalize v ++ (0 : Byte) + BitVec.ofNat 16 k = src at *
  have bound := region_inBounds src
  have cell := fun n => toNat_of_cell (a := src) (n := n)
  unfold memRead
  generalize region src = x at *
  cases x with
  | oam off =>
    have hoff : off < 160 := bound
    have here := cell _ rfl
    exact foldl_dmaByte_oam_other v _ s off (by rw [List.mem_range]; omega)
  | _ =>
    obtain ⟨m, hm⟩ := foldl_dmaByte v (List.range k) s
    rw [hm]
    rfl

/-- The first `n` turns of the DMA's loop fill the first `n` bytes of OAM. -/
theorem oam_foldl_dmaByte (v : Byte) (s : State) {n : Nat} (hn : n ≤ 160) {k : Nat} (hk : k < n) :
    Cells.get ((List.range n).foldl (dmaByte v) s).ppu.oam k = memRead s (v ++ (0 : Byte) + BitVec.ofNat 16 k) := by
  induction n with
  | zero => omega
  | succ n ih =>
    rw [List.range_succ, List.foldl_append, List.foldl_cons, List.foldl_nil]
    change Cells.get (Cells.set _ n (memRead _ _)) k = _
    rw [Cells.get_set, memRead_dmaSource v (by omega)]
    split
    · next e => rw [e]
    · exact ih (by omega) (by omega)

/-- Settles O44: a DMA leaves all but its register and OAM as it was, and the loop's turns fill OAM one byte after another. -/
theorem dmaCopiesPageToOam : Obligations.DmaCopiesPageToOam := by
  unfold Obligations.DmaCopiesPageToOam
  intro s v
  extract_lets t
  have ht : t = writeDma v s := rfl
  obtain ⟨m, hm⟩ := writeDma_eq v s
  refine ⟨?_, fun k hk => ?_, ?_⟩
  · rw [ht, hm]
    rfl
  · have dst : (0xFE00 + BitVec.ofNat 16 k : Word).toNat = 0xFE00 + k := by
      rw [BitVec.toNat_add, BitVec.toNat_ofNat, show (0xFE00 : Word).toNat = 0xFE00 from rfl]
      omega
    have src : BitVec.ofNat 16 (v.toNat * 256 + k) = v ++ (0 : Byte) + BitVec.ofNat 16 k := by
      rw [← toNat_dmaSource v hk, BitVec.ofNat_toNat, BitVec.setWidth_eq]
    have oam : region (0xFE00 + BitVec.ofNat 16 k) = .oam k := by
      rw [region_oam (by omega) (by omega), dst, Nat.add_sub_cancel_left]
    rw [src, memRead, oam]
    exact oam_foldl_dmaByte v { s with dma := v } le_rfl hk
  · rw [ht, hm]

/-! ## The cartridge's windows -/

section CartridgeWindows

theorem memRead_rom (s : State) {a : Word} (h : a.toNat < 0x8000) : memRead s a = s.cart.readRom a.toNat := by
  unfold memRead
  rw [region_rom h]
  rfl

theorem memWrite_rom (s : State) {a : Word} (v : Byte) (h : a.toNat < 0x8000) :
    memWrite a v s = { s with cart := s.cart.writeControl a.toNat v } := by
  unfold memWrite
  rw [region_rom h]
  rfl

theorem readRom_high (c : Cart) {n : Nat} (h : 0x4000 ≤ n) :
    c.readRom n = romByte c.rom (c.activeBank * 0x4000 + (n - 0x4000)) := by
  unfold Cart.readRom Cart.romOffset
  rw [if_neg (by omega)]

theorem readRam_of_some {c : Cart} {off k : Nat} (hk : c.ramOffset off = some k) : c.readRam off = Cells.get c.ram k := by
  unfold Cart.readRam
  rw [hk]

theorem writeRam_of_some {c : Cart} {off k : Nat} (hk : c.ramOffset off = some k) (v : Byte) :
    c.writeRam off v = { c with ram := Cells.set c.ram k v } := by
  unfold Cart.writeRam
  rw [hk]

/-- An address of the RAM window that reaches RAM byte `k`. -/
theorem ramWindow_of_some (s : State) {a : Word} (v : Byte) (h₁ : 0xA000 ≤ a.toNat) (h₂ : a.toNat < 0xC000) {k : Nat}
    (hk : s.cart.ramOffset (a.toNat - 0xA000) = some k) :
    memRead s a = Cells.get s.cart.ram k ∧ memRead (memWrite a v s) a = v := by
  unfold memRead memWrite
  rw [region_cartRam h₁ h₂]
  refine ⟨readRam_of_some hk, ?_⟩
  change (s.cart.writeRam (a.toNat - 0xA000) v).readRam (a.toNat - 0xA000) = v
  rw [writeRam_of_some hk]
  exact (readRam_of_some (c := { s.cart with ram := Cells.set s.cart.ram k v }) hk).trans (Cells.get_set_same ..)

/-- An address of the RAM window that reaches no RAM byte. -/
theorem ramWindow_of_none (s : State) {a : Word} (v : Byte) (h₁ : 0xA000 ≤ a.toNat) (h₂ : a.toNat < 0xC000)
    (hk : s.cart.ramOffset (a.toNat - 0xA000) = none) : memRead s a = 0 ∧ memWrite a v s = s := by
  unfold memRead memWrite
  rw [region_cartRam h₁ h₂]
  simp only [readRegion, writeRegion, Cart.readRam, Cart.writeRam, hk, and_self]

end CartridgeWindows

/-! ## The values the bank-controller registers take (R122, R125) -/

theorem unlocksRam_eq (v : Byte) : unlocksRam v = decide (v.toNat % 16 = 0x0A) := by
  unfold unlocksRam
  rw [beq_eq_decide, decide_eq_decide, ← BitVec.toNat_inj, BitVec.toNat_and]
  exact iff_of_eq (congrArg (· = 0x0A) (Nat.and_two_pow_sub_one_eq_mod v.toNat 4))

theorem field_zero (v : Byte) (n : Nat) : Byte.field v 0 n = BitVec.ofNat n v.toNat := rfl

theorem clampBank_ofNat (n : Nat) : clampBank (BitVec.ofNat 5 n) = if n % 32 = 0 then 1 else BitVec.ofNat 5 n := by
  unfold clampBank
  congr 1
  rw [← BitVec.toNat_inj, BitVec.toNat_ofNat]
  rfl

/-- Scheme B's bank is four bits wide, and bit 4 of the register stays 0. -/
theorem clampBank_field_four (v : Byte) :
    clampBank ((Byte.field v 0 4).zeroExtend 5) = if v.toNat % 16 = 0 then 1 else BitVec.ofNat 5 (v.toNat % 16) := by
  have field : (Byte.field v 0 4).zeroExtend 5 = BitVec.ofNat 5 (v.toNat % 16) := by
    apply BitVec.eq_of_toNat_eq
    simp [field_zero]
  rw [field, clampBank_ofNat, Nat.mod_eq_of_lt (by omega : v.toNat % 16 < 32)]

/-! ## Scheme A (R122, R123, R124) -/

/-- The four registers by address. -/
theorem writeControlA_cases (c : Cart) (n : Nat) (v : Byte) :
    (n < 0x2000 → c.writeControlA n v = { c with ramEnabled := decide (v.toNat % 16 = 0x0A) }) ∧
    (0x2000 ≤ n → n < 0x4000 →
      c.writeControlA n v = { c with romBank := if v.toNat % 32 = 0 then 1 else BitVec.ofNat 5 v.toNat }) ∧
    (0x4000 ≤ n → n < 0x6000 → c.writeControlA n v = { c with ramBank := BitVec.ofNat 2 v.toNat }) ∧
    (0x6000 ≤ n → c.writeControlA n v = { c with bankMode := v.getLsbD 0 }) := by
  unfold Cart.writeControlA
  refine ⟨fun h => ?_, fun h₁ h₂ => ?_, fun h₁ h₂ => ?_, fun h => ?_⟩
  · rw [if_pos h, unlocksRam_eq]
  · rw [if_neg (by omega), if_pos h₂, field_zero, clampBank_ofNat]
  · rw [if_neg (by omega), if_neg (by omega), if_pos h₂, field_zero]
  · rw [if_neg (by omega), if_neg (by omega), if_neg (by omega)]
    rfl

section SchemeA

variable {c : Cart} (hc : c.variant = .schemeA)
include hc

theorem writeControl_schemeA (n : Nat) (v : Byte) : c.writeControl n v = c.writeControlA n v := by
  unfold Cart.writeControl
  rw [hc]

theorem activeBank_schemeA :
    c.activeBank = if c.bankMode = true then c.romBank.toNat else c.ramBank.toNat * 32 + c.romBank.toNat := by
  unfold Cart.activeBank
  rw [hc]
  simp only [toNat_append_eq_add, Nat.reducePow]

theorem ramOffset_schemeA (off : Nat) :
    c.ramOffset off =
      let k := (if c.bankMode = true then c.ramBank.toNat else 0) * 0x2000 + off
      if c.ramEnabled = true ∧ k < c.ramSize then some k else none := by
  unfold Cart.ramOffset
  rw [hc]
  simp only [Bool.and_eq_true, decide_eq_true_eq]

end SchemeA

/-- Settles O45: each write by the register it selects, the ROM windows by the active bank, and the RAM window by the offset it
reaches or does not reach. -/
theorem schemeABanking : Obligations.SchemeABanking := by
  unfold Obligations.SchemeABanking
  intro s a v hc n
  have write : n < 0x8000 → memWrite a v s = { s with cart := s.cart.writeControlA n v } := fun h => by
    rw [memWrite_rom s v h, writeControl_schemeA hc]
  obtain ⟨ramEnabled, romBank, ramBank, bankMode⟩ := writeControlA_cases s.cart n v
  refine ⟨fun h => ?_, fun h₁ h₂ => ?_, fun h₁ h₂ => ?_, fun h₁ h₂ => ?_, fun h => ?_, fun h₁ h₂ => ?_, fun h₁ h₂ => ?_⟩
  · rw [write (by omega), ramEnabled h]
  · rw [write (by omega), romBank h₁ h₂]
  · rw [write (by omega), ramBank h₁ h₂]
  · rw [write h₂, bankMode h₁]
  · rw [memRead_rom s (Nat.lt_trans h (by decide)), readRom_low _ _ h]
  · rw [memRead_rom s h₂, readRom_high _ h₁, activeBank_schemeA hc]
  · extract_lets off
    have reached := ramOffset_schemeA hc (n - 0xA000)
    refine ⟨fun h => ?_, fun h => ?_⟩
    · exact ramWindow_of_some s v h₁ h₂ (reached.trans (if_pos h))
    · exact ramWindow_of_none s v h₁ h₂ (reached.trans (if_neg h))

/-! ## Scheme B (R125) -/

section SchemeB

variable {c : Cart} (hc : c.variant = .schemeB)
include hc

theorem writeControl_schemeB (n : Nat) (v : Byte) : c.writeControl n v = c.writeControlB n v := by
  unfold Cart.writeControl
  rw [hc]

theorem activeBank_schemeB : c.activeBank = c.romBank.toNat := by
  unfold Cart.activeBank
  rw [hc]

theorem ramOffset_schemeB (off : Nat) : c.ramOffset off = if c.ramEnabled = true then some (off % 512) else none := by
  unfold Cart.ramOffset
  rw [hc]

end SchemeB

/-- The two registers, by bit 8 of an address below 0x4000; above, a write is ignored. -/
theorem writeControlB_cases (c : Cart) (a : Word) (v : Byte) :
    (a.toNat < 0x4000 → a.getLsbD 8 = false →
      c.writeControlB a.toNat v = { c with ramEnabled := decide (v.toNat % 16 = 0x0A) }) ∧
    (a.toNat < 0x4000 → a.getLsbD 8 = true →
      c.writeControlB a.toNat v = { c with romBank := if v.toNat % 16 = 0 then 1 else BitVec.ofNat 5 (v.toNat % 16) }) ∧
    (0x4000 ≤ a.toNat → c.writeControlB a.toNat v = c) := by
  have bit : a.getLsbD 8 = decide (a.toNat / 256 % 2 = 1) := by
    rw [← BitVec.testBit_toNat, Nat.testBit_eq_decide_div_mod_eq]
  unfold Cart.writeControlB
  refine ⟨fun h h₈ => ?_, fun h h₈ => ?_, fun h => if_pos h⟩
  · rw [bit, decide_eq_false_iff_not] at h₈
    rw [if_neg (by omega), if_pos (by omega), unlocksRam_eq]
  · rw [bit, decide_eq_true_iff] at h₈
    rw [if_neg (by omega), if_neg (by omega), clampBank_field_four]

theorem bus_schemeB (s : State) (a : Word) (v : Byte) (hc : s.cart.variant = .schemeB) :
    let n := a.toNat
    (n < 0x4000 → a.getLsbD 8 = false →
      memWrite a v s = { s with cart := { s.cart with ramEnabled := decide (v.toNat % 16 = 0x0A) } }) ∧
    (n < 0x4000 → a.getLsbD 8 = true → memWrite a v s =
      { s with cart := { s.cart with romBank := if v.toNat % 16 = 0 then 1 else BitVec.ofNat 5 (v.toNat % 16) } }) ∧
    (0x4000 ≤ n → n < 0x8000 → memWrite a v s = s ∧
      memRead s a = romByte s.cart.rom (s.cart.romBank.toNat * 0x4000 + (n - 0x4000))) ∧
    (n < 0x4000 → memRead s a = romByte s.cart.rom n) ∧
    (0xA000 ≤ n → n < 0xC000 →
      (s.cart.ramEnabled = true → memRead s a = Cells.get s.cart.ram ((n - 0xA000) % 512) ∧ memRead (memWrite a v s) a = v) ∧
      (s.cart.ramEnabled = false → memRead s a = 0 ∧ memWrite a v s = s)) := by
  intro n
  have write : n < 0x8000 → memWrite a v s = { s with cart := s.cart.writeControlB n v } := fun h => by
    rw [memWrite_rom s v h, writeControl_schemeB hc]
  obtain ⟨ramEnabled, romBank, ignored⟩ := writeControlB_cases s.cart a v
  have reached := ramOffset_schemeB hc (n - 0xA000)
  refine ⟨fun h h₈ => ?_, fun h h₈ => ?_, fun h₁ h₂ => ⟨?_, ?_⟩, fun h => ?_, fun h₁ h₂ => ⟨fun h => ?_, fun h => ?_⟩⟩
  · rw [write (by omega), ramEnabled h h₈]
  · rw [write (by omega), romBank h h₈]
  · rw [write h₂, ignored h₁]
  · rw [memRead_rom s h₂, readRom_high _ h₁, activeBank_schemeB hc]
  · rw [memRead_rom s (Nat.lt_trans h (by decide)), readRom_low _ _ h]
  · exact ramWindow_of_some s v h₁ h₂ (reached.trans (if_pos h))
  · exact ramWindow_of_none s v h₁ h₂ (reached.trans (if_neg (Bool.eq_false_iff.mp h)))

/-! ## A cartridge without banking (R121) -/

section NoBanking

variable {c : Cart} (hc : c.variant = .noBanking)
include hc

/-- Bank 1 stands in the high window, so offset and address agree. -/
theorem readRom_noBanking (n : Nat) : c.readRom n = romByte c.rom n := by
  by_cases h : n < 0x4000
  · exact readRom_low c n h
  · have bank : c.activeBank = 1 := by
      unfold Cart.activeBank
      rw [hc]
    rw [readRom_high c (by omega), bank, Nat.one_mul, Nat.add_sub_cancel' (by omega)]

theorem ramOffset_noBanking (off : Nat) : c.ramOffset off = if off < c.ramSize then some off else none := by
  unfold Cart.ramOffset
  rw [hc]

end NoBanking

theorem bus_noBanking (s : State) (a : Word) (v : Byte) (hc : s.cart.variant = .noBanking) :
    let n := a.toNat
    (n < 0x8000 → memRead s a = imageByte s.cart.rom n ∧ memWrite a v s = s) ∧
    (0xA000 ≤ n → n < 0xC000 →
      (n - 0xA000 < s.cart.ramSize → memRead s a = Cells.get s.cart.ram (n - 0xA000) ∧ memRead (memWrite a v s) a = v) ∧
      (s.cart.ramSize ≤ n - 0xA000 → memRead s a = 0 ∧ memWrite a v s = s)) := by
  intro n
  have reached := ramOffset_noBanking hc (n - 0xA000)
  refine ⟨fun h => ⟨?_, ?_⟩, fun h₁ h₂ => ⟨fun h => ?_, fun h => ?_⟩⟩
  · exact (memRead_rom s h).trans (readRom_noBanking hc n)
  · rw [memWrite_rom s v h, writeControl_noBanking _ hc]
  · exact ramWindow_of_some s v h₁ h₂ (reached.trans (if_pos h))
  · exact ramWindow_of_none s v h₁ h₂ (reached.trans (if_neg (Nat.not_lt.mpr h)))

/-! ## Construction (R120, R126) -/

theorem variantOf_cases : ∀ b : Byte,
    (b.toNat ∈ [0x00, 0x08, 0x09] → variantOf b = some .noBanking) ∧
    (b.toNat ∈ [0x01, 0x02, 0x03] → variantOf b = some .schemeA) ∧
    (b.toNat ∈ [0x05, 0x06] → variantOf b = some .schemeB) ∧
    (b.toNat ∉ [0x00, 0x01, 0x02, 0x03, 0x05, 0x06, 0x08, 0x09] → variantOf b = none) := by decide

theorem ramSizeOf_eq : ∀ code : Byte, ramSizeOf code = headerRamSize code := by decide

theorem toNat_typeByte (rom : Rom) :
    (typeByte rom).toNat = if rom.size < 0x150 then 0 else (imageByte rom 0x147).toNat := by
  unfold typeByte
  split <;> rfl

section Load

variable (p : Params) (m : InitMem) (rom : Rom)

theorem load_of_variant {variant : Variant} (h : variantOf (typeByte rom) = some variant) :
    State.load p m rom = .ok (builtMachine p m rom variant (cartRamSize rom variant)) := by
  unfold State.load
  rw [h]
  rfl

theorem load_of_unknown (h : variantOf (typeByte rom) = none) :
    State.load p m rom = .error (.unknownCartridgeType (typeByte rom)) := by
  unfold State.load
  rw [h]

theorem load_cases :
    let type : Nat := if rom.size < 0x150 then 0 else (imageByte rom 0x147).toNat
    (type ∈ [0x00, 0x08, 0x09] → State.load p m rom = .ok (builtMachine p m rom .noBanking (headerRamSize (imageByte rom 0x149)))) ∧
    (type ∈ [0x01, 0x02, 0x03] → State.load p m rom = .ok (builtMachine p m rom .schemeA (headerRamSize (imageByte rom 0x149)))) ∧
    (type ∈ [0x05, 0x06] → State.load p m rom = .ok (builtMachine p m rom .schemeB 512)) ∧
    (type ∉ [0x00, 0x01, 0x02, 0x03, 0x05, 0x06, 0x08, 0x09] →
      State.load p m rom = .error (.unknownCartridgeType (BitVec.ofNat 8 type))) := by
  rw [← toNat_typeByte, ← ramSizeOf_eq]
  obtain ⟨noBanking, schemeA, schemeB, unknown⟩ := variantOf_cases (typeByte rom)
  refine ⟨fun h => load_of_variant p m rom (noBanking h), fun h => load_of_variant p m rom (schemeA h),
    fun h => load_of_variant p m rom (schemeB h), fun h => ?_⟩
  rw [BitVec.ofNat_toNat, BitVec.setWidth_eq]
  exact load_of_unknown p m rom (unknown h)

end Load

/-- Settles O46: scheme B, a cartridge without banking, and construction, each by its own lemma. -/
theorem schemeBBanking : Obligations.SchemeBBanking := by
  unfold Obligations.SchemeBBanking
  exact ⟨bus_schemeB, bus_noBanking, load_cases⟩

/-! ## What no instruction and no device changes -/

/-- The launch inputs that stand in the state and what the cartridge's header selected (R120, R126, R127; log 1). -/
def State.setup (s : State) : Rom × Variant × Nat × Params := (s.cart.rom, s.cart.variant, s.cart.ramSize, s.params)

/-- The launch inputs and the recorded fault: what every part of a machine step but the fault itself keeps. -/
def State.fixed (s : State) : (Rom × Variant × Nat × Params) × Option Fault := (s.setup, s.fault)

theorem setup_eq_iff (s t : State) :
    t.setup = s.setup ↔
      t.cart.rom = s.cart.rom ∧ t.cart.variant = s.cart.variant ∧ t.cart.ramSize = s.cart.ramSize ∧ t.params = s.params := by
  simp only [State.setup, Prod.mk.injEq]

theorem setup_eq_of_fixed_eq {s t : State} (h : t.fixed = s.fixed) : t.setup = s.setup := congrArg Prod.fst h

theorem fault_eq_of_fixed_eq {s t : State} (h : t.fixed = s.fixed) : t.fault = s.fault := congrArg Prod.snd h

/-! ### Register updates, memory and the stack -/

section Fixed

variable (s : State)

@[simp] theorem setPc_fixed (v : Word) : (s.setPc v).fixed = s.fixed := rfl
@[simp] theorem setSp_fixed (v : Word) : (s.setSp v).fixed = s.fixed := rfl
@[simp] theorem setFlags_fixed (z n h c : Bool) : (s.setFlags z n h c).fixed = s.fixed := rfl
@[simp] theorem setReg_fixed (r : Reg8) (v : Byte) : (s.setReg r v).fixed = s.fixed := by cases r <;> rfl
@[simp] theorem setPair_fixed (p : Pair16) (v : Word) : (s.setPair p v).fixed = s.fixed := by cases p <;> rfl
@[simp] theorem setStackPair_fixed (q : StackPair) (v : Word) : (s.setStackPair q v).fixed = s.fixed := by cases q <;> rfl

/-- A write to ROM space reaches the bank controller, one to the RAM window the RAM's bytes (R127). -/
@[simp] theorem memWrite_setup (a : Word) (v : Byte) : (memWrite a v s).setup = s.setup := by
  unfold memWrite
  cases region a with
  | rom n =>
    obtain ⟨rom, variant, ramSize, -⟩ := writeControl_frame s.cart n v
    exact (setup_eq_iff ..).mpr ⟨rom, variant, ramSize, rfl⟩
  | cartRam off =>
    obtain ⟨m, hm⟩ := writeRam_frame s.cart off v
    change State.setup { s with cart := s.cart.writeRam off v } = s.setup
    rw [hm]
    rfl
  | dma =>
    obtain ⟨m, hm⟩ := writeDma_eq v s
    change (writeDma v s).setup = s.setup
    rw [hm]
    rfl
  | _ => rfl

@[simp] theorem memWrite_fixed (a : Word) (v : Byte) : (memWrite a v s).fixed = s.fixed :=
  Prod.ext (memWrite_setup s a v) (memWrite_fault a v s)

@[simp] theorem setLoc_fixed (l : Loc8) (v : Byte) : (s.setLoc l v).fixed = s.fixed := by
  cases l with
  | reg r => exact setReg_fixed s r v
  | atHl => exact memWrite_fixed s _ v

@[simp] theorem putResult_fixed (l : Loc8) (r : Result8) : (s.putResult l r).fixed = s.fixed := setLoc_fixed s l r.value

@[simp] theorem push16_fixed (v : Word) : (push16 v s).fixed = s.fixed := by
  unfold push16
  simp

@[simp] theorem popSp_fixed : (popSp s).fixed = s.fixed := rfl
@[simp] theorem popPc_fixed : (popPc s).fixed = s.fixed := rfl
@[simp] theorem callTo_fixed (target npc : Word) : (callTo target npc s).fixed = s.fixed := push16_fixed s npc
@[simp] theorem returnFromInterrupt_fixed : (returnFromInterrupt s).fixed = s.fixed := rfl
@[simp] theorem enterHalt_fixed : (enterHalt s).fixed = s.fixed := by unfold enterHalt; split <;> rfl

/-! ### Instructions -/

/-- A meaning that always completes, and changes neither a launch input nor the recorded fault. -/
def KeepsFixed (m : State → Outcome) : Prop := ∀ s, ∃ t, m s = .next t ∧ t.fixed = s.fixed

theorem keepsFixed_executeDefault (d : Descriptor) {f : State → State} (hf : ∀ t, (f t).fixed = t.fixed) :
    KeepsFixed (executeDefault d f) := fun _ => ⟨_, rfl, hf _⟩

theorem keepsFixed_executeJump (d : Descriptor) {f : Word → State → State} (hf : ∀ npc t, (f npc t).fixed = t.fixed) :
    KeepsFixed (executeJump d f) := fun _ => ⟨_, rfl, hf _ _⟩

theorem keepsFixed_executeCond (d : Descriptor) (b : State → Bool) {f : Word → State → State}
    (hf : ∀ npc t, (f npc t).fixed = t.fixed) : KeepsFixed fun s => executeCond d (b s) f s := fun s => by
  cases h : b s
  · exact ⟨_, executeCond_notTaken d _ h f s, rfl⟩
  · exact ⟨_, executeCond_taken d _ h f s, hf _ _⟩

theorem keepsFixed_run (i : Shape) : KeepsFixed (Shape.run i) := by
  unfold Shape.run
  cases i with
  | jp | jpHl | jr | call | rst | ret | reti => exact keepsFixed_executeJump _ (by simp)
  | jpCond | jrCond | callCond | retCond => exact keepsFixed_executeCond _ _ (by simp)
  | stop | di => exact keepsFixed_executeDefault _ fun _ => rfl
  | ei => exact keepsFixed_executeDefault _ fun t => by split <;> rfl
  | _ => exact keepsFixed_executeDefault _ (by simp)

theorem exec_fixed (i : Instr) : ∃ t, exec i s = .next t ∧ t.fixed = s.fixed := by
  rw [exec_shape]
  exact keepsFixed_run i.shape s

/-! ### The machine step -/

@[simp] theorem dispatchInterrupt_fixed : (dispatchInterrupt s).fixed = s.fixed := push16_fixed ..

@[simp] theorem endOfStep_fixed : (endOfStep s).fixed = s.fixed := by unfold endOfStep; split <;> rfl

@[simp] theorem wakeFromHalt_fixed : (wakeFromHalt s).fixed = s.fixed := by unfold wakeFromHalt; split <;> rfl

@[simp] theorem beginStep_fixed : (beginStep s).fixed = s.fixed := by
  obtain ⟨f, j, l, h⟩ := pollButtons_eq s
  unfold beginStep
  rw [h]
  rfl

@[simp] theorem advanceDevices_fixed (n : Nat) : (advanceDevices n s).fixed = s.fixed := by
  unfold advanceDevices
  obtain ⟨f, p, o, hp⟩ := pictureOnly_ppuAdvance n s
  obtain ⟨f', t, ht, -⟩ := timerAdvance_eq n { s with regIF := f, ppu := p, out := o }
  rw [hp, ht]
  rfl

theorem runInstr_fixed (i : Instr) : ∃ t, runInstr i s = .next t ∧ t.fixed = s.fixed := by
  have woken := wakeFromHalt_fixed s
  unfold runInstr
  simp only
  split
  · exact ⟨_, rfl, woken⟩
  split
  · exact ⟨_, rfl, (dispatchInterrupt_fixed _).trans woken⟩
  · obtain ⟨t, ht, kept⟩ := exec_fixed (wakeFromHalt s) i
    rw [ht]
    exact ⟨_, rfl, (endOfStep_fixed t).trans (kept.trans woken)⟩

/-- The CPU step always has a next state; it changes no launch input. -/
theorem cpuStep_setup : ∃ t, cpuStep s = .next t ∧ t.setup = s.setup := by
  unfold cpuStep
  split
  · exact ⟨_, rfl, rfl⟩
  split
  · next i _ _ =>
    obtain ⟨t, ht, kept⟩ := runInstr_fixed (wakeFromStop s) i
    exact ⟨t, ht, setup_eq_of_fixed_eq kept⟩
  · exact ⟨_, rfl, rfl⟩
  · exact ⟨_, rfl, rfl⟩

theorem finishStep_setup : (finishStep s).setup = s.setup := by
  unfold finishStep
  split
  · rfl
  · exact setup_eq_of_fixed_eq (advanceDevices_fixed s _)

end Fixed

theorem step_setup {s t : State} (h : step s = .next t) : t.setup = s.setup := by
  unfold step machineStep at h
  obtain ⟨u, hu, kept⟩ := cpuStep_setup (beginStep s)
  rw [hu] at h
  split at h
  · cases h
  · cases h
    rw [finishStep_setup, kept]
    exact setup_eq_of_fixed_eq (beginStep_fixed s)

/-- Settles O43: `State.setup` is what no bus write and no step changes, and a ROM read at or past the image's
length takes `romByte`'s other branch. -/
theorem romVariantAndParametersNeverChange : Obligations.RomVariantAndParametersNeverChange := by
  unfold Obligations.RomVariantAndParametersNeverChange
  refine ⟨fun s a v => ?_, fun s a h hsize => ?_, fun s t h => ?_⟩
  · exact ((setup_eq_iff s _).mp (memWrite_setup s a v)).1
  · rw [memRead_rom s h]
    unfold Cart.readRom romByte
    rw [if_neg (Nat.not_lt.mpr hsize)]
  · exact (setup_eq_iff s t).mp (step_setup h)

/-! ## The step of an awake CPU -/

section Awake

variable {s : State}

theorem wakeFromHalt_of_awake (h : s.halted = false) : wakeFromHalt s = s := by
  unfold wakeFromHalt
  rw [if_neg (by rw [h]; simp)]

theorem fetchByte_of_noHaltBug (h : s.haltBug = false) (k : Nat) :
    fetchByte s k = memRead s (s.regs.pc + BitVec.ofNat 16 k) := by
  unfold fetchByte State.haltBugBytes
  simp [h]

/-- The fetch reads what stands at PC; of a CB row it need not read the third byte (log 10). -/
theorem decode_instrBytes {i : Instr} {rest : List Byte} (hh : s.halted = false) (hb : s.haltBug = false)
    (h : decode (bytesAtPc s) = .ok i rest) : ∃ rest', decode (instrBytes s) = .ok i rest' := by
  unfold bytesAtPc at h
  unfold instrBytes
  simp only [wakeFromHalt_of_awake hh, fetchByte_of_noHaltBug hb]
  split
  · next cb =>
    rw [cb] at h ⊢
    cases h
    exact ⟨_, rfl⟩
  · exact ⟨rest, h⟩

/-- Awake and without an interrupt to take, the CPU executes the instruction and ends the step (R450, steps 6 and 7). -/
theorem runInstr_of_awake {i : Instr} {t : State} (hh : s.halted = false) (hi : ¬ (s.ime = true ∧ s.pending ≠ 0))
    (h : exec i s = .next t) : runInstr i s = .next (endOfStep t) := by
  unfold runInstr
  simp only [wakeFromHalt_of_awake hh, hh, if_neg hi, h]
  rfl

theorem cpuStep_of_decode {i : Instr} {rest : List Byte} (hs : staysStopped s = false)
    (h : decode (instrBytes (wakeFromStop s)) = .ok i rest) : cpuStep s = runInstr i (wakeFromStop s) := by
  unfold cpuStep
  simp [hs, h]

theorem step_of_cpuStep {t : State} (hf : s.fault = none) (h : cpuStep (beginStep s) = .next t) :
    step s = .next (finishStep t) := by
  unfold step machineStep
  rw [hf, h]

theorem finishStep_of_running (hf : s.fault = none) : finishStep s = advanceDevices s.cycles s := by
  unfold finishStep
  rw [hf]
  rfl

theorem endOfStep_cycles (s : State) : (endOfStep s).cycles = s.cycles := by unfold endOfStep; split <;> rfl

end Awake

/-- Settles O35: the fetch decodes to `i`, `exec i` completes without a fault, and the devices then advance by its cycles. -/
theorem stepRunsTheDecodedInstruction : Obligations.StepRunsTheDecodedInstruction := by
  unfold Obligations.StepRunsTheDecodedInstruction
  refine ⟨fun _ _ => rfl, fun s i rest hf hd hb hh hi => ?_⟩
  obtain ⟨running, notStopped⟩ := hf
  obtain ⟨rest', hd'⟩ := decode_instrBytes hh hb hd
  obtain ⟨t, ht, kept⟩ := exec_fixed (awake s) i
  have cpu : cpuStep (beginStep s) = .next (endOfStep t) :=
    (cpuStep_of_decode notStopped hd').trans (runInstr_of_awake hh hi ht)
  have fault : (endOfStep t).fault = none :=
    (fault_eq_of_fixed_eq ((endOfStep_fixed t).trans (kept.trans (beginStep_fixed s)))).trans running
  refine ⟨t, ht, ?_⟩
  rw [step_of_cpuStep running cpu, finishStep_of_running fault, endOfStep_cycles]
  rfl

end Sys2Proof.Machine

namespace Sys2Proof.Machine

/-! ## The encoder: the fields of R153 and the encoding line of each rule -/

/-- A pair rule's encoding line writes q and z as one nibble. -/
theorem opXpqz_eq : ∀ (x p : BitVec 2) (q : BitVec 1) (z : BitVec 3), opXpqz x p q z = x ++ p ++ (q ++ z) := by decide

/-- A conditional rule's encoding line writes x and y's high bit as one field. -/
theorem opCond_eq (x : BitVec 2) (y : BitVec 1) (cc : Cond) (z : BitVec 3) : opCond x y cc z = x ++ y ++ cc.code ++ z := by
  revert x y z
  cases cc <;> decide

theorem locCode_eq (l : Loc8) : locCode l = l.code := by cases l <;> rfl

theorem encode_eq_encodingOf (x : Shape) : x.encode = encodingOf x := by
  cases x with
  | ldPairImm | addHl | incPair | decPair | push | pop => simp only [Shape.encode, opXpqz_eq]; rfl
  | jpCond | jrCond | callCond | retCond => simp only [Shape.encode, opCond_eq]; rfl
  | rot | bit | res | set => simp only [Shape.encode, ← locCode_eq]; rfl
  | alu op src => cases src <;> rfl
  | _ => rfl

/-! ## The decoder, by the kind of the regular table's cell -/

section Decoder

variable {op : Byte} (rest : List Byte)

theorem decode_implied {i : Instr} (h : lookupRegular op = .implied i) : decode (op :: rest) = .ok i rest := by
  simp [decode, h]

theorem decode_byte {f : Byte → Instr} (h : lookupRegular op = .byte f) (b : Byte) :
    decode (op :: b :: rest) = .ok (f b) rest := by
  simp [decode, h]

theorem decode_word {f : Word → Instr} (h : lookupRegular op = .word f) (lo hi : Byte) :
    decode (op :: lo :: hi :: rest) = .ok (f (Word.ofBytes hi lo)) rest := by
  simp [decode, h]

theorem decode_prefixCb (h : lookupRegular op = .prefixCb) (b : Byte) : decode (op :: b :: rest) = .ok (lookupCb b) rest := by
  simp [decode, h]

theorem decode_noDescriptor (h : lookupRegular op = .noDescriptor) : decode (op :: rest) = .noDescriptor op := by
  simp [decode, h]

/-- The two bytes of a word, low byte first (R156, D3), decode to the word. -/
theorem decode_operandWord {f : Word → Instr} (h : lookupRegular op = .word f) (w : Word) :
    decode (op :: w.lo :: w.hi :: rest) = .ok (f w) rest := by
  rw [decode_word rest h, ofBytes_hi_lo]

end Decoder

/-- The fields of an instruction's rule give the place of its cell in the tables, so the lookup evaluates to the cell. Only the
rows with a 16-bit operand need a law beside that: their two bytes make the word again. -/
theorem decode_encode (i : Instr) (rest : List Byte) : decode (i.encode ++ rest) = .ok i rest := by
  cases i with
  | ldBcD16 w | ldDeD16 w | ldHlD16 w | ldSpD16 w | ldAtA16Sp w | ldAtA16A w | ldAAtA16 w
  | jpA16 w | jpNzA16 w | jpZA16 w | jpNcA16 w | jpCA16 w
  | callA16 w | callNzA16 w | callZA16 w | callNcA16 w | callCA16 w => exact decode_operandWord rest rfl w
  | _ => rfl

/-- Settles O1: the model's encoder by the encoding line of each rule, the decoder by the cell of each instruction. -/
theorem decodeOfEncode : Obligations.DecodeOfEncode := by
  unfold Obligations.DecodeOfEncode
  exact fun i rest => ⟨encode_eq_encodingOf i.shape, decode_encode i rest⟩

/-- Settles O4: each word is the encoding of its instruction, with the bytes left over after it. -/
theorem sampleWordsDecode : Obligations.SampleWordsDecode := by
  unfold Obligations.SampleWordsDecode
  exact ⟨decode_encode .nop _, decode_encode (.ldAD8 0x42) _, decode_encode (.ldHlD16 0x1234) _,
    decode_encode (.ldAtA16Sp 0xC100) _, decode_encode .addAAtHl _, decode_encode .addHlSp _, decode_encode .set1E _,
    decode_encode .bit7AtHl _, decode_encode (.jrNzE8 0xFC) _, decode_encode (.callA16 0x0150) _, decode_encode .ei _⟩

/-! ## The cells of the tables: which are empty, and how many bytes each takes -/

/-- Whether a cell is empty (R162). -/
def Entry.isEmpty : Entry → Bool
  | .noDescriptor => true
  | _ => false

theorem isEmpty_iff (e : Entry) : Entry.isEmpty e = true ↔ e = .noDescriptor := by
  cases e <;> simp [Entry.isEmpty]

theorem isEmpty_lookupRegular_iff : ∀ op : Byte, Entry.isEmpty (lookupRegular op) = true ↔ op ∈ holes := by decide

theorem lookupRegular_eq_noDescriptor_iff (op : Byte) : lookupRegular op = .noDescriptor ↔ op ∈ holes :=
  (isEmpty_iff _).symm.trans (isEmpty_lookupRegular_iff op)

/-- The descriptors of a cell's instructions give the number of bytes that the decoder takes for it: the opcode and its operand. -/
def Entry.LengthAgrees : Entry → Prop
  | .implied i => i.descriptor.length = 1
  | .byte f => ∀ b, (f b).descriptor.length = 2
  | .word f => ∀ w, (f w).descriptor.length = 3
  | .prefixCb | .noDescriptor => True

theorem regularTable_lengthAgrees : ∀ row ∈ regularTable, ∀ e ∈ row, Entry.LengthAgrees e := by
  simp only [regularTable, List.cons_append, List.nil_append,
    regularRow0, regularRow1, regularRow2, regularRow3, regularRow4, regularRow5, regularRow6, regularRow7,
    regularRow8, regularRow9, regularRowA, regularRowB, regularRowC, regularRowD, regularRowE, regularRowF,
    List.forall_mem_cons, List.not_mem_nil, false_imp_iff, implies_true, Entry.LengthAgrees, true_and, and_true]
  and_intros <;> intros <;> rfl

/-- What holds of a list's members and of the default holds of every lookup. -/
theorem getD_of_forall_mem {α : Type} {P : α → Prop} {l : List α} {d : α} (h : ∀ x ∈ l, P x) (hd : P d) (n : Nat) :
    P (l.getD n d) := by
  by_cases hn : n < l.length
  · rw [List.getD_eq_getElem _ _ hn]
    exact h _ (List.getElem_mem hn)
  · rw [List.getD_eq_default _ _ (Nat.not_lt.mp hn)]
    exact hd

theorem lookupRegular_lengthAgrees (op : Byte) : Entry.LengthAgrees (lookupRegular op) := by
  have row : ∀ e ∈ regularTable.getD (op.toNat / 16) [], Entry.LengthAgrees e :=
    getD_of_forall_mem (P := fun row => ∀ e ∈ row, Entry.LengthAgrees e) regularTable_lengthAgrees (by simp) _
  exact getD_of_forall_mem (P := Entry.LengthAgrees) (d := .noDescriptor) row trivial _

theorem lookupCb_length : ∀ op : Byte, (lookupCb op).descriptor.length = 2 := by decide

/-- Settles O3: the empty cells are those of the eleven opcodes, and every other kind of cell takes as many bytes as the descriptors
of its instructions say. -/
theorem elevenOpcodesHaveNoDescriptor : Obligations.ElevenOpcodesHaveNoDescriptor := by
  unfold Obligations.ElevenOpcodesHaveNoDescriptor
  refine fun op b1 b2 => ⟨fun hole => decode_noDescriptor _ ((lookupRegular_eq_noDescriptor_iff op).mpr hole), fun noHole => ?_⟩
  have agrees := lookupRegular_lengthAgrees op
  cases cell : lookupRegular op <;> rw [cell] at agrees
  case implied i => exact ⟨i, [b1, b2], decode_implied _ cell, congrArg (2 + ·) agrees⟩
  case byte f => exact ⟨f b1, [b2], decode_byte _ cell b1, congrArg (1 + ·) (agrees b1)⟩
  case word f => exact ⟨f (Word.ofBytes b2 b1), [], decode_word _ cell b1 b2, congrArg (0 + ·) (agrees _)⟩
  case prefixCb => exact ⟨lookupCb b1, [b2], decode_prefixCb _ cell b1, congrArg (1 + ·) (lookupCb_length b1)⟩
  case noDescriptor => exact absurd ((lookupRegular_eq_noDescriptor_iff op).mp cell) noHole

/-! ## Retirement, by the execution type (R171) -/

/-- The model's condition reads the flag bits of R155. -/
theorem cond_iff_condHolds (s : State) (cc : Cond) : s.cond cc = true ↔ CondHolds s.regs.f cc := by
  cases cc <;> simp [State.cond, State.flagZ, State.flagC, Byte.bit, CondHolds]

section Retirement

variable (d : Descriptor) (s : State)

theorem executeDefault_retires (f : State → State) :
    ∃ t, executeDefault d f s = .next t ∧ t.regs.pc = nextPc s d.length ∧ t.cycles = d.base :=
  ⟨_, executeDefault_eq d f s, rfl, rfl⟩

theorem executeJump_retires (f : Word → State → State) : ∃ t, executeJump d f s = .next t ∧ t.cycles = d.base :=
  ⟨_, executeJump_eq d f s, rfl⟩

theorem executeCond_retires (cc : Cond) (f : Word → State → State) :
    ∃ t, executeCond d (s.cond cc) f s = .next t ∧
      (CondHolds s.regs.f cc → t.cycles = d.alternate) ∧
      (¬ CondHolds s.regs.f cc → t.regs.pc = nextPc s d.length ∧ t.cycles = d.base) := by
  rw [← cond_iff_condHolds]
  by_cases h : s.cond cc = true
  · exact ⟨_, executeCond_taken d _ h f s, fun _ => rfl, fun hn => absurd h hn⟩
  · exact ⟨_, executeCond_notTaken d _ (Bool.eq_false_iff.mpr h) f s, fun hc => absurd hc h, fun _ => ⟨rfl, rfl⟩⟩

end Retirement

/-- Settles O5: the rule of each instruction runs under the execution type that the statement names, with the descriptor of the
opcode tables; the ALU and CB rules choose theirs by the operand. -/
theorem everyInstructionRetiresByItsDescriptor : Obligations.EveryInstructionRetiresByItsDescriptor := by
  unfold Obligations.EveryInstructionRetiresByItsDescriptor Instr.descriptor
  intro i s
  rw [exec_shape]
  unfold Shape.run
  cases i.shape with
  | jpCond | jrCond | callCond | retCond => exact executeCond_retires _ s _ _
  | jp | jpHl | jr | call | ret | rst | reti => exact executeJump_retires _ s _
  | alu op src => cases src <;> exact executeDefault_retires _ s _
  | rot op l => cases l <;> exact executeDefault_retires _ s _
  | bit b l | res b l | set b l => cases l <;> exact executeDefault_retires _ s _
  | _ => exact executeDefault_retires _ s _

end Sys2Proof.Machine

namespace Sys2Proof.Machine

/-! ## An instruction that returns `Default`, as its effect and then its retirement (R171)

Execution clears `halt_bug` before the handler runs. No effect of a load depends on it, so `exec` is the effect on the state the
instruction began in, retired; the frames below speak of that effect alone. -/

section Retired

variable (s : State) (b : Bool)

@[simp] theorem memRead_setHaltBug (a : Word) : memRead { s with haltBug := b } a = memRead s a := memRead_congr s ..

@[simp] theorem setReg_setHaltBug (r : Reg8) (v : Byte) :
    State.setReg { s with haltBug := b } r v = { s.setReg r v with haltBug := b } := by cases r <;> rfl

@[simp] theorem setPair_setHaltBug (p : Pair16) (v : Word) :
    State.setPair { s with haltBug := b } p v = { s.setPair p v with haltBug := b } := by cases p <;> rfl

@[simp] theorem setStackPair_setHaltBug (q : StackPair) (v : Word) :
    State.setStackPair { s with haltBug := b } q v = { s.setStackPair q v with haltBug := b } := by cases q <;> rfl

@[simp] theorem getStackPair_setHaltBug (q : StackPair) :
    State.getStackPair { s with haltBug := b } q = s.getStackPair q := by cases q <;> rfl

@[simp] theorem popSp_setHaltBug : popSp { s with haltBug := b } = { popSp s with haltBug := b } := rfl

@[simp] theorem popValue_setHaltBug : popValue { s with haltBug := b } = popValue s := by
  unfold popValue memRead16
  simp only [memRead_setHaltBug]

/-- What retirement with the type `Default` makes of the state `u` that an instruction's effect left, when `s` is the state it
began in. -/
def retired (len cyc : Nat) (s u : State) : State := { u.setPc (s.npc len) with haltBug := false, cycles := cyc }

variable {s} {len cyc : Nat}

/-- An instruction whose rule runs `f` under the type `Default` leaves the effect of `f`, retired. -/
theorem exec_eq_retired {i : Instr} {x : Shape} {f : State → State} (h : i.shape = x)
    (run : Shape.run x = executeDefault (.plain len cyc) f)
    (hf : f { s with haltBug := false } = { f s with haltBug := false }) : exec i s = .next (retired len cyc s (f s)) := by
  rw [exec_shape, h, run, executeDefault_eq, hf]
  rfl

variable (u : State)

@[simp] theorem retired_getReg (r : Reg8) : (retired len cyc s u).getReg r = u.getReg r := setPc_getReg u _ r

@[simp] theorem retired_getPair (p : Pair16) : (retired len cyc s u).getPair p = u.getPair p := by cases p <;> rfl

@[simp] theorem retired_sp : (retired len cyc s u).regs.sp = u.regs.sp := rfl
@[simp] theorem retired_f : (retired len cyc s u).regs.f = u.regs.f := rfl

theorem retires_retired : Retires s (retired len cyc s u) len cyc := ⟨rfl, rfl, rfl⟩

end Retired

/-! ## Frames of register updates -/

section Frames

theorem RegsKept.trans {e e' : List Reg8} {s t u : State} (h : RegsKept e s t) (h' : RegsKept e' t u) :
    RegsKept (e ++ e') s u := fun r hr =>
  have ⟨hre, hre'⟩ := not_or.mp fun hm => hr (List.mem_append.mpr hm)
  (h' r hre').trans (h r hre)

theorem OnlyCpu.trans {s t u : State} (h : OnlyCpu s t) (h' : OnlyCpu t u) : OnlyCpu s u := by
  unfold OnlyCpu at h h' ⊢
  rw [h', h]

/-- No address maps a CPU register (R82). -/
theorem OnlyCpu.bytesKept {s t : State} (h : OnlyCpu s t) : BytesKept s t := fun a => by
  rw [h]
  exact memRead_congr s ..

variable (s : State)

theorem regsKept_setReg (r : Reg8) (v : Byte) : RegsKept [r] s (s.setReg r v) := fun x hx =>
  setReg_getReg_other s r v x (List.mem_singleton.not.mp hx)

theorem regsKept_setSp (v : Word) : RegsKept [] s (s.setSp v) := fun x _ => setSp_getReg s v x

/-- A pair is written as its two registers (R31). -/
theorem regsKept_setPair (p : Pair16) (v : Word) : RegsKept (pairRegs p) s (s.setPair p v) := by
  cases p with
  | bc => exact (regsKept_setReg s .b v.hi).trans (regsKept_setReg _ .c v.lo)
  | de => exact (regsKept_setReg s .d v.hi).trans (regsKept_setReg _ .e v.lo)
  | hl => exact (regsKept_setReg s .h v.hi).trans (regsKept_setReg _ .l v.lo)
  | sp => exact regsKept_setSp s v

theorem regsKept_setF (v : Byte) : RegsKept [] s (s.setF v) := fun x _ => setF_getReg s v x

theorem regsKept_memWrite (a : Word) (v : Byte) : RegsKept [] s (memWrite a v s) := fun x _ => memWrite_getReg a v s x

theorem onlyCpu_setReg (r : Reg8) (v : Byte) : OnlyCpu s (s.setReg r v) := by cases r <;> rfl

theorem onlyCpu_setPair (p : Pair16) (v : Word) : OnlyCpu s (s.setPair p v) := by cases p <;> rfl

theorem onlyCpu_setStackPair (q : StackPair) (v : Word) : OnlyCpu s (s.setStackPair q v) := by cases q <;> rfl

/-- A write of BC, DE or HL leaves SP. -/
theorem setPair_sp_of_ne {p : Pair16} (hp : p ≠ .sp) (v : Word) : (s.setPair p v).regs.sp = s.regs.sp := by
  cases p with
  | sp => exact absurd rfl hp
  | bc | de | hl => rfl

/-! Retirement writes PC, `halt_bug` and the cycle count, which no frame speaks of. -/

variable {s} {u : State} {len cyc : Nat}

theorem RegsKept.retired {e : List Reg8} (h : RegsKept e s u) : RegsKept e s (retired len cyc s u) := fun r hr =>
  (retired_getReg u r).trans (h r hr)

theorem OnlyCpu.retired {w : State} (h : OnlyCpu w u) : OnlyCpu w (retired len cyc s u) := h.trans rfl

theorem OnlyCpu.storesNothing (h : OnlyCpu s u) : StoresNothing s (Machine.retired len cyc s u) :=
  ⟨h.retired, h.retired.bytesKept⟩

theorem OnlyCpu.storesByte {a : Word} {v : Byte} (h : OnlyCpu (memWrite a v s) u) :
    StoresByte s (Machine.retired len cyc s u) a v :=
  ⟨h.retired, fun b hb => (h.retired.bytesKept b).trans (memRead_memWrite_other s a b v hb)⟩

theorem OnlyCpu.storesTwo {a₁ a₂ : Word} {v₁ v₂ : Byte} (h : OnlyCpu (memWrite a₂ v₂ (memWrite a₁ v₁ s)) u) :
    StoresTwo s (Machine.retired len cyc s u) a₁ v₁ a₂ v₂ :=
  ⟨h.retired, fun b h₁ h₂ =>
    calc memRead (Machine.retired len cyc s u) b
      _ = memRead (memWrite a₂ v₂ (memWrite a₁ v₁ s)) b := h.retired.bytesKept b
      _ = memRead (memWrite a₁ v₁ s) b := memRead_memWrite_other _ a₂ b v₂ h₂
      _ = memRead s b := memRead_memWrite_other s a₁ b v₁ h₁⟩

end Frames

/-! ## Loads, stores and stack transfers (40_load.md) -/

/-- The high page by an addition, as R215 to R218 write it. -/
theorem highPage_eq : ∀ a : Byte, highPage a = 0xFF00 + Byte.zext a := by decide

section Rules

variable {i : Instr} {s : State} {x : Shape} {len cyc : Nat}

/-- A rule that writes `v` to one 8-bit register and nothing else. -/
theorem exec_setReg {dst : Reg8} {v : State → Byte} (h : i.shape = x)
    (run : Shape.run x = executeDefault (.plain len cyc) fun s => s.setReg dst (v s))
    (hv : v { s with haltBug := false } = v s) :
    ∃ t, exec i s = .next t ∧ t.getReg dst = v s ∧ RegsKept [dst] s t ∧ t.regs.sp = s.regs.sp ∧ FlagsKept s t ∧
      Retires s t len cyc ∧ StoresNothing s t :=
  ⟨_, exec_eq_retired h run (by simp only [setReg_setHaltBug, hv]), by simp, (regsKept_setReg s dst _).retired,
    setReg_sp s dst _, setReg_f s dst _, retires_retired _, (onlyCpu_setReg s dst _).storesNothing⟩

/-- A rule that reads the byte at `a` into one 8-bit register. -/
theorem exec_loadByte {dst : Reg8} {a : State → Word} (h : i.shape = x)
    (run : Shape.run x = executeDefault (.plain len cyc) fun s => s.setReg dst (memRead s (a s)))
    (ha : a { s with haltBug := false } = a s) : LoadsByte i s dst (a s) len cyc :=
  exec_setReg h run (by simp only [memRead_setHaltBug, ha])

/-- A rule whose one effect is the bus write of `v` at `a`. -/
theorem exec_memWrite {a : State → Word} {v : State → Byte} (h : i.shape = x)
    (run : Shape.run x = executeDefault (.plain len cyc) fun s => memWrite (a s) (v s) s)
    (ha : a { s with haltBug := false } = a s) (hv : v { s with haltBug := false } = v s) :
    StoreCompletes i s (a s) (v s) len cyc :=
  have regs : (memWrite (a s) (v s) s).regs = s.regs := memWrite_regs _ _ s
  ⟨_, exec_eq_retired h run (by simp only [ha, hv, memWrite_setHaltBug]), (regsKept_memWrite s _ _).retired,
    (congrArg Regs.sp regs :), (congrArg Regs.f regs :), retires_retired _, OnlyCpu.storesByte rfl⟩

/-- `LD rr,d16` (R220) for a pair of two 8-bit registers. -/
theorem exec_ldPairImm {p : Pair16} {nn : Word} (h : i.shape = .ldPairImm p nn) (hp : p ≠ .sp) :
    ∃ t, exec i s = .next t ∧ t.getPair p = nn ∧ RegsKept (pairRegs p) s t ∧ t.regs.sp = s.regs.sp ∧ FlagsKept s t ∧
      Retires s t 3 12 ∧ StoresNothing s t :=
  ⟨_, exec_eq_retired (f := (·.setPair p nn)) h rfl (setPair_setHaltBug s false p nn), by simp, (regsKept_setPair s p nn).retired,
    setPair_sp_of_ne s hp nn, setPair_f s p nn, retires_retired _, (onlyCpu_setPair s p nn).storesNothing⟩

/-- A rule that writes SP and nothing else (R220, R221). -/
theorem exec_setSp {v : State → Word} (h : i.shape = x)
    (run : Shape.run x = executeDefault (.plain len cyc) fun s => s.setSp (v s))
    (hv : v { s with haltBug := false } = v s) :
    ∃ t, exec i s = .next t ∧ t.regs.sp = v s ∧ RegsKept [] s t ∧ FlagsKept s t ∧ Retires s t len cyc ∧
      StoresNothing s t :=
  ⟨_, exec_eq_retired h run (by simp only [hv]; rfl), rfl, (regsKept_setSp s _).retired, rfl, retires_retired _,
    OnlyCpu.storesNothing rfl⟩

end Rules

/-- Settles O6: the rule writes one register. -/
theorem loadRegisterFromRegister : Obligations.LoadRegisterFromRegister := by
  unfold Obligations.LoadRegisterFromRegister
  intro i s dst src h
  exact exec_setReg (v := (·.getReg src)) h rfl rfl

/-- Settles O7: each rule reads one byte into a register, at an address that the registers form. -/
theorem loadByteFromMemory : Obligations.LoadByteFromMemory := by
  unfold Obligations.LoadByteFromMemory
  simp only [← highPage_eq]
  exact fun i s => ⟨fun dst h => exec_loadByte (a := State.hl) h rfl rfl,
    fun h => exec_loadByte (a := (·.getPair .bc)) h rfl rfl,
    fun h => exec_loadByte (a := (·.getPair .de)) h rfl rfl,
    fun aa h => exec_loadByte (a := fun _ => aa) h rfl rfl,
    fun a8 h => exec_loadByte (a := fun _ => highPage a8) h rfl rfl,
    fun h => exec_loadByte (a := State.highC) h rfl rfl⟩

/-- Settles O8: the rules write a register, a pair or SP; a pair reads back as the word written to it. -/
theorem loadImmediateOrSp : Obligations.LoadImmediateOrSp := by
  unfold Obligations.LoadImmediateOrSp
  exact fun i s => ⟨fun dst n h => exec_setReg (v := fun _ => n) h rfl rfl,
    fun nn h => exec_ldPairImm h (by decide),
    fun nn h => exec_ldPairImm h (by decide),
    fun nn h => exec_ldPairImm h (by decide),
    fun nn h => exec_setSp (v := fun _ => nn) h rfl rfl,
    fun h => exec_setSp (v := State.hl) h rfl rfl⟩

/-- Settles O9: each rule is one bus write, at an address that the registers form. -/
theorem storeByteToMemory : Obligations.StoreByteToMemory := by
  unfold Obligations.StoreByteToMemory
  simp only [← highPage_eq]
  exact fun i s => ⟨fun src h => exec_memWrite (a := State.hl) (v := (·.getReg src)) h rfl rfl rfl,
    fun n h => exec_memWrite (a := State.hl) (v := fun _ => n) h rfl rfl rfl,
    fun h => exec_memWrite (a := (·.getPair .bc)) (v := (·.regs.a)) h rfl rfl rfl,
    fun h => exec_memWrite (a := (·.getPair .de)) (v := (·.regs.a)) h rfl rfl rfl,
    fun aa h => exec_memWrite (a := fun _ => aa) (v := (·.regs.a)) h rfl rfl rfl,
    fun a8 h => exec_memWrite (a := fun _ => highPage a8) (v := (·.regs.a)) h rfl rfl rfl,
    fun h => exec_memWrite (a := State.highC) (v := (·.regs.a)) h rfl rfl rfl⟩

/-! ### The access at HL that moves HL (R209-R212) -/

/-- The effect of `LD A,(HL+)` and `LD A,(HL-)`: HL moves by 1 or by -1. -/
def loadAndMoveHl (move : Word) (s : State) : State := (s.setReg .a (memRead s s.hl)).setPair .hl (s.hl + move)

/-- The effect of `LD (HL+),A` and `LD (HL-),A`. -/
def storeAndMoveHl (move : Word) (s : State) : State := (memWrite s.hl s.regs.a s).setPair .hl (s.hl + move)

theorem run_loadAndMoveHl {x : Shape} {move : Word} (h : x = .ldAHlInc ∧ move = 1 ∨ x = .ldAHlDec ∧ move = -1) :
    Shape.run x = executeDefault (.plain 1 8) (loadAndMoveHl move) := by
  obtain ⟨rfl, rfl⟩ | ⟨rfl, rfl⟩ := h
  · rfl
  · simp only [Shape.run, runLdAHlDec, BitVec.sub_eq_add_neg]
    rfl

theorem run_storeAndMoveHl {x : Shape} {move : Word} (h : x = .ldHlIncA ∧ move = 1 ∨ x = .ldHlDecA ∧ move = -1) :
    Shape.run x = executeDefault (.plain 1 8) (storeAndMoveHl move) := by
  obtain ⟨rfl, rfl⟩ | ⟨rfl, rfl⟩ := h
  · rfl
  · simp only [Shape.run, runLdHlDecA, BitVec.sub_eq_add_neg]
    rfl

theorem loadAndMoveHl_setHaltBug (move : Word) (s : State) (b : Bool) :
    loadAndMoveHl move { s with haltBug := b } = { loadAndMoveHl move s with haltBug := b } := by
  simp only [loadAndMoveHl, State.hl, memRead_setHaltBug, setReg_setHaltBug, setPair_setHaltBug]

theorem storeAndMoveHl_setHaltBug (move : Word) (s : State) (b : Bool) :
    storeAndMoveHl move { s with haltBug := b } = { storeAndMoveHl move s with haltBug := b } := by
  simp only [storeAndMoveHl, State.hl, memWrite_setHaltBug, setPair_setHaltBug]

/-- Settles O10: both directions are one effect, with the move as its parameter. -/
theorem loadStoreAndMoveHl : Obligations.LoadStoreAndMoveHl := by
  unfold Obligations.LoadStoreAndMoveHl
  refine fun i s move => ⟨fun h => ?_, fun h => ?_⟩
  · have kept : RegsKept [.a] s (s.setReg .a (memRead s s.hl)) := regsKept_setReg s .a _
    exact ⟨_, exec_eq_retired rfl (run_loadAndMoveHl h) (loadAndMoveHl_setHaltBug move s false), rfl,
      setPair_getPair_same (s.setReg .a (memRead s s.hl)) .hl _, (kept.trans (regsKept_setPair _ .hl _)).retired, rfl, rfl,
      retires_retired _, OnlyCpu.storesNothing rfl⟩
  · have kept : RegsKept [] s (memWrite s.hl s.regs.a s) := regsKept_memWrite s _ _
    have regs : (memWrite s.hl s.regs.a s).regs = s.regs := memWrite_regs ..
    exact ⟨_, exec_eq_retired rfl (run_storeAndMoveHl h) (storeAndMoveHl_setHaltBug move s false),
      setPair_getPair_same (memWrite s.hl s.regs.a s) .hl _, (kept.trans (regsKept_setPair _ .hl _)).retired,
      (congrArg Regs.sp regs :), (congrArg Regs.f regs :), retires_retired _, OnlyCpu.storesByte rfl⟩

/-! ### The stack (R222, R240-R243) -/

/-- A push moves SP over two bus writes, the high byte first (R240). -/
theorem onlyCpu_push16 (v : Word) (s : State) :
    OnlyCpu (memWrite (s.regs.sp - 2) v.lo (memWrite (s.regs.sp - 2 + 1) v.hi s)) (push16 v s) := by
  rw [push16_eq]
  rfl

theorem push16_sp (v : Word) (s : State) : (push16 v s).regs.sp = s.regs.sp - 2 := by
  rw [push16_eq]
  rfl

theorem push16_f (v : Word) (s : State) : (push16 v s).regs.f = s.regs.f := by
  simp only [push16_eq, setSp_f, memWrite_regs]

theorem regsKept_push16 (v : Word) (s : State) : RegsKept [] s (push16 v s) := fun r _ => by
  rw [push16_eq]
  simp only [setSp_getReg, memWrite_getReg]

/-- Settles O11: LD (a16),SP is two bus writes, and a push two bus writes and a change of SP. -/
theorem storeStackPointerAndPush : Obligations.StoreStackPointerAndPush := by
  unfold Obligations.StoreStackPointerAndPush
  refine fun i s => ⟨fun aa h => ?_, fun q h => ?_⟩
  · exact ⟨_, exec_eq_retired (f := fun s => memWrite (aa + 1) s.regs.sp.hi (memWrite aa s.regs.sp.lo s)) h rfl
        (by simp only [memWrite_setHaltBug]),
      ((regsKept_memWrite s _ _).trans (regsKept_memWrite _ _ _)).retired, by simp, by simp [FlagsKept], retires_retired _,
      OnlyCpu.storesTwo rfl⟩
  · have pushed : Pushes s (retired 1 16 s (push16 (s.getStackPair q) s)) (s.getStackPair q) :=
      ⟨push16_sp _ s, (onlyCpu_push16 _ s).storesTwo⟩
    refine ⟨_, exec_eq_retired (f := fun s => push16 (s.getStackPair q) s) h rfl
      (by simp only [push16_setHaltBug, getStackPair_setHaltBug]), (regsKept_push16 _ s).retired, push16_f _ s,
      retires_retired _, ?_⟩
    cases q <;> exact pushed

/-- Settles O12: a pop moves SP and writes the popped word to the pair. -/
theorem popLoadsPair : Obligations.PopLoadsPair := by
  unfold Obligations.PopLoadsPair
  intro i s q h
  have onlyCpu : OnlyCpu s ((popSp s).setStackPair q (popValue s)) :=
    OnlyCpu.trans (t := popSp s) rfl (onlyCpu_setStackPair (popSp s) q _)
  have kept : RegsKept [] s (popSp s) := regsKept_setSp s _
  refine ⟨_, exec_eq_retired (f := fun s => (popSp s).setStackPair q (popValue s)) h rfl
    (by simp only [popSp_setHaltBug, popValue_setHaltBug, setStackPair_setHaltBug]),
    setStackPair_sp (popSp s) q _, retires_retired _, onlyCpu.storesNothing, ?_⟩
  cases q with
  | bc => exact ⟨setPair_getPair_same (popSp s) .bc _, (kept.trans (regsKept_setPair _ .bc _)).retired, rfl⟩
  | de => exact ⟨setPair_getPair_same (popSp s) .de _, (kept.trans (regsKept_setPair _ .de _)).retired, rfl⟩
  | hl => exact ⟨setPair_getPair_same (popSp s) .hl _, (kept.trans (regsKept_setPair _ .hl _)).retired, rfl⟩
  | af => exact ⟨rfl, rfl, (kept.trans ((regsKept_setReg (popSp s) .a _).trans (regsKept_setF _ _))).retired⟩

end Sys2Proof.Machine

namespace Sys2Proof.Machine

/-! ## A rule that writes a result to a location and its flags to F

Every rule of 41_alu8.md amounts to one `putResult`, as do the rotates of the CB table: the result goes to a register or to the byte
at HL, and its four flags to F. What such a rule leaves is said once, for both kinds of location. -/

section PutResult

theorem flagsAre_setResultFlags (s : State) (r : Result8) : FlagsAre (s.setResultFlags r) r.z r.n r.h r.c := by
  unfold FlagsAre
  rw [setResultFlags_f, mkF_mask]
  exact ⟨mkF_z .., mkF_n .., mkF_h .., mkF_c .., mkF_low ..⟩

theorem flagsAre_putResult (s : State) (l : Loc8) (r : Result8) : FlagsAre (s.putResult l r) r.z r.n r.h r.c :=
  flagsAre_setResultFlags (s.setLoc l r.value) r

theorem regsKept_setResultFlags (s : State) (r : Result8) : RegsKept [] s (s.setResultFlags r) := fun x _ =>
  setResultFlags_getReg s r x

theorem putResult_setHaltBug (s : State) (b : Bool) (l : Loc8) (r : Result8) :
    State.putResult { s with haltBug := b } l r = { s.putResult l r with haltBug := b } := by
  cases l with
  | reg x => exact congrArg (·.setResultFlags r) (setReg_setHaltBug s b x r.value)
  | atHl => exact congrArg (·.setResultFlags r) (memWrite_setHaltBug s.hl r.value s b)

theorem putResult_sp (s : State) (l : Loc8) (r : Result8) : (s.putResult l r).regs.sp = s.regs.sp := by
  cases l with
  | reg x => exact setReg_sp s x r.value
  | atHl => exact congrArg (·.sp) (memWrite_regs s.hl r.value s)

/-- The result is the only write beside F and retirement, which address no memory. -/
theorem writesLoc_putResult (s : State) (l : Loc8) (r : Result8) (len cyc : Nat) :
    WritesLoc s (retired len cyc s (s.putResult l r)) r.value l := by
  cases l with
  | reg x =>
    have onlyCpu : OnlyCpu s (s.putResult (.reg x) r) := (onlyCpu_setReg s x r.value).trans rfl
    have value : (s.putResult (.reg x) r).getReg x = r.value :=
      (setResultFlags_getReg ..).trans (setReg_getReg_same s x r.value)
    exact ⟨(retired_getReg ..).trans value,
      ((regsKept_setReg s x r.value).trans (regsKept_setResultFlags _ r)).retired, onlyCpu.storesNothing⟩
  | atHl =>
    exact ⟨((regsKept_memWrite s s.hl r.value).trans (regsKept_setResultFlags _ r)).retired, OnlyCpu.storesByte rfl⟩

variable {i : Instr} {s : State} {x : Shape} {len cyc : Nat} {res : State → Result8} {r : Result8}

/-- A rule that puts the result `r` in the location `l`. -/
theorem exec_putResult {l : Loc8} (h : i.shape = x)
    (run : Shape.run x = executeDefault (.plain len cyc) fun s => s.putResult l (res s))
    (unbugged : res { s with haltBug := false } = res s) (result : res s = r) :
    ∃ t, exec i s = .next t ∧ WritesLoc s t r.value l ∧ FlagsAre t r.z r.n r.h r.c ∧ t.regs.sp = s.regs.sp ∧
      Retires s t len cyc := by
  subst result
  exact ⟨_, exec_eq_retired (f := fun s => s.putResult l (res s)) h run (by simp only [unbugged, putResult_setHaltBug]),
    writesLoc_putResult s l _ len cyc, flagsAre_putResult s l _, putResult_sp s l _, retires_retired _⟩

/-- A rule that puts the result `r` in a register. -/
theorem exec_putReg {dst : Reg8} (h : i.shape = x)
    (run : Shape.run x = executeDefault (.plain len cyc) fun s => s.putResult (.reg dst) (res s))
    (unbugged : res { s with haltBug := false } = res s) (result : res s = r) :
    ∃ t, exec i s = .next t ∧ t.getReg dst = r.value ∧ FlagsAre t r.z r.n r.h r.c ∧ RegsKept [dst] s t ∧
      t.regs.sp = s.regs.sp ∧ Retires s t len cyc ∧ StoresNothing s t :=
  have ⟨t, next, ⟨value, kept, nothing⟩, flags, sp, retires⟩ := exec_putResult h run unbugged result
  ⟨t, next, value, flags, kept, sp, retires, nothing⟩

/-- A rule that puts the result `r` in A. -/
theorem exec_putA (h : i.shape = x)
    (run : Shape.run x = executeDefault (.plain len cyc) fun s => s.putResult (.reg .a) (res s))
    (unbugged : res { s with haltBug := false } = res s) (result : res s = r) :
    WritesA i s r.value r.z r.n r.h r.c len cyc :=
  exec_putReg h run unbugged result

/-- A rule that puts the result `r` in the byte at HL. -/
theorem exec_putHl (h : i.shape = x)
    (run : Shape.run x = executeDefault (.plain len cyc) fun s => s.putResult .atHl (res s))
    (unbugged : res { s with haltBug := false } = res s) (result : res s = r) :
    ∃ t, exec i s = .next t ∧ StoresByte s t (valueHl s) r.value ∧ FlagsAre t r.z r.n r.h r.c ∧ RegsKept [] s t ∧
      t.regs.sp = s.regs.sp ∧ Retires s t len cyc :=
  have ⟨t, next, ⟨kept, stored⟩, flags, sp, retires⟩ := exec_putResult h run unbugged result
  ⟨t, next, stored, flags, kept, sp, retires⟩

end PutResult

/-! ## The ALU instructions (R260-R268) -/

/-- The length and cost of an operand form (R260). -/
theorem aluDescriptor_eq (src : Src8) : aluDescriptor src = .plain (operandLength src) (operandCycles src) := by
  cases src <;> rfl

theorem src8_eq_operandValue (s : State) (src : Src8) : s.src8 src = operandValue s src := by
  cases src <;> rfl

theorem src8_setHaltBug (s : State) (b : Bool) (src : Src8) : State.src8 { s with haltBug := b } src = s.src8 src := by
  cases src with
  | reg r => cases r <;> rfl
  | atHl => exact memRead_setHaltBug s b s.hl
  | imm n => rfl

/-- An ALU instruction puts in A what `alu8` makes of A, the operand and the old carry. -/
theorem exec_alu {i : Instr} {s : State} {op : AluOp} {src : Src8} {r : Result8} (h : i.shape = .alu op src)
    (result : alu8 op s.regs.a (operandValue s src) s.flagC = r) :
    WritesA i s r.value r.z r.n r.h r.c (operandLength src) (operandCycles src) :=
  have run : Shape.run (.alu op src) = executeDefault (.plain (operandLength src) (operandCycles src)) fun s =>
      s.putResult (.reg .a) (alu8 op s.regs.a (s.src8 src) s.flagC) := by
    rw [← aluDescriptor_eq]
    rfl
  exec_putA h run (congrArg (alu8 op s.regs.a · s.flagC) (src8_setHaltBug s false src))
    ((congrArg (alu8 op s.regs.a · s.flagC) (src8_eq_operandValue s src)).trans result)

/-- The carry flag as the number that ADC and SBC take it for. -/
theorem flagC_toNat (s : State) : s.flagC.toNat = if s.regs.f.getLsbD 4 = true then 1 else 0 := by
  change (s.regs.f.getLsbD 4).toNat = _
  cases s.regs.f.getLsbD 4 <;> rfl

theorem ofNat_beq_zero (n : Nat) : (BitVec.ofNat 8 n == 0) = (n % 256 == 0) := by
  rw [Bool.eq_iff_iff, beq_iff_eq, beq_iff_eq, ← BitVec.toNat_inj, BitVec.toNat_ofNat]
  rfl

theorem ofInt_beq_zero (n : Int) : (BitVec.ofInt 8 n == 0) = (n % 256 == 0) := by
  rw [Bool.eq_iff_iff, beq_iff_eq, beq_iff_eq, ← BitVec.toNat_inj, BitVec.toNat_ofInt]
  change (n % 256).toNat = 0 ↔ _
  omega

/-- The sum by the number that the carry adds, with Z read off the exact sum (R261, R262). -/
theorem add8_eq (a v : Byte) {carry : Bool} {c : Nat} (hc : carry.toNat = c) :
    add8 a v carry = ⟨BitVec.ofNat 8 (a.toNat + v.toNat + c), (a.toNat + v.toNat + c) % 256 == 0, false,
      decide (0x0F < a.toNat % 16 + v.toNat % 16 + c), decide (0xFF < a.toNat + v.toNat + c)⟩ := by
  rw [← hc, ← ofNat_beq_zero]
  rfl

/-- The difference by the number that the carry takes away, with Z read off the integer difference (R263, R264). -/
theorem sub8_eq (a v : Byte) {carry : Bool} {c : Nat} (hc : carry.toNat = c) :
    sub8 a v carry = ⟨BitVec.ofInt 8 ((a.toNat : Int) - v.toNat - c), ((a.toNat : Int) - v.toNat - c) % 256 == 0, true,
      decide (a.toNat % 16 < v.toNat % 16 + c), decide (a.toNat < v.toNat + c)⟩ := by
  rw [← hc, ← ofInt_beq_zero]
  rfl

/-- CP finds equality where the difference is 0 modulo 256: it lies between -0xFF and 0xFF (R268). -/
theorem cp8_eq (a v : Byte) (c : Bool) :
    alu8 .cp a v c =
      ⟨a, a.toNat == v.toNat, true, decide (a.toNat % 16 < v.toNat % 16), decide (a.toNat < v.toNat)⟩ := by
  have zero : (((a.toNat : Int) - v.toNat - (0 : Nat)) % 256 == 0) = (a.toNat == v.toNat) := by
    have := a.isLt
    have := v.isLt
    rw [Bool.eq_iff_iff, beq_iff_eq, beq_iff_eq]
    omega
  rw [← zero]
  exact congrArg (fun r : Result8 => { r with value := a }) (sub8_eq a v (carry := false) rfl)

/-- Settles O13: both are the sum `add8`, with the carry that the operation takes in. -/
theorem addAndAddWithCarry : Obligations.AddAndAddWithCarry := by
  unfold Obligations.AddAndAddWithCarry
  rintro i s src c (⟨h, rfl⟩ | ⟨h, rfl⟩)
  · exact (exec_alu h (add8_eq _ _ (carry := false) rfl) :)
  · exact (exec_alu h (add8_eq _ _ (flagC_toNat s)) :)

/-- Settles O14: SUB and SBC are the difference `sub8`, with the borrow that the operation takes in; CP is SUB with A kept. -/
theorem subtractAndCompare : Obligations.SubtractAndCompare := by
  unfold Obligations.SubtractAndCompare
  refine fun i s src => ⟨?_, fun h => (exec_alu h (cp8_eq ..) :)⟩
  rintro c (⟨h, rfl⟩ | ⟨h, rfl⟩)
  · exact (exec_alu h (sub8_eq _ _ (carry := false) rfl) :)
  · exact (exec_alu h (sub8_eq _ _ (flagC_toNat s)) :)

/-- Settles O15: the result and the flags are those of `and8`, `xor8` and `or8` as they stand. -/
theorem logicalOperations : Obligations.LogicalOperations := by
  unfold Obligations.LogicalOperations
  exact fun i s src => ⟨fun h => (exec_alu h rfl :), fun h => (exec_alu h rfl :), fun h => (exec_alu h rfl :)⟩

/-! ## Increment and decrement (R270-R273) -/

/-- Settles O16: the result goes to the register that was read. -/
theorem incrementDecrementRegister : Obligations.IncrementDecrementRegister := by
  unfold Obligations.IncrementDecrementRegister
  exact fun i s r => ⟨fun h => (exec_putReg (s := s) (res := fun s => inc8 (s.getReg r) s.flagC) h rfl rfl rfl :),
    fun h => (exec_putReg (s := s) (res := fun s => dec8 (s.getReg r) s.flagC) h rfl rfl rfl :)⟩

/-- Settles O17: the result is one bus write at HL, of the byte read there before it. -/
theorem incrementDecrementMemory : Obligations.IncrementDecrementMemory := by
  unfold Obligations.IncrementDecrementMemory
  intro i s
  have read := memRead_setHaltBug s false s.hl
  exact ⟨fun h => (exec_putHl (res := fun s => inc8 (memRead s s.hl) s.flagC) h rfl (congrArg (inc8 · s.flagC) read) rfl :),
    fun h => (exec_putHl (res := fun s => dec8 (memRead s s.hl) s.flagC) h rfl (congrArg (dec8 · s.flagC) read) rfl :)⟩

/-! ## Decimal adjustment, complement and the carry flag (R280-R283) -/

/-- The two parts of DAA's adjustment share no bit, so that joining them is adding them. -/
theorem adjustment_or_eq_add (low high : Bool) :
    (if low then (0x06 : Byte) else 0) ||| (if high then 0x60 else 0) =
      BitVec.ofNat 8 ((if low then 0x06 else 0) + (if high then 0x60 else 0)) := by
  cases low <;> cases high <;> rfl

/-- Settles O18: `daa8` adds or subtracts the adjustment, whose two tests are those of the statement. -/
theorem decimalAdjust : Obligations.DecimalAdjust := by
  unfold Obligations.DecimalAdjust
  intro i s h
  dsimp only
  rw [← adjustment_or_eq_add]
  exact (exec_putA (s := s) (res := fun s => daa8 s.regs.a s.flagN s.flagH s.flagC) h rfl rfl rfl :)

/-- Settles O19: each writes A, SCF and CCF the value it holds, and the four flags. -/
theorem complementAndCarryOperations : Obligations.ComplementAndCarryOperations := by
  unfold Obligations.ComplementAndCarryOperations
  exact fun i s =>
    ⟨fun h => (exec_putA (s := s) (res := fun s => ⟨s.regs.a ^^^ 0xFF, s.flagZ, true, true, s.flagC⟩) h rfl rfl rfl :),
    fun h => (exec_putA (s := s) (res := fun s => ⟨s.regs.a, s.flagZ, false, false, true⟩) h rfl rfl rfl :),
    fun h => (exec_putA (s := s) (res := fun s => ⟨s.regs.a, s.flagZ, false, false, !s.flagC⟩) h rfl rfl rfl :)⟩

/-! ## The accumulator rotates (R290-R293)

The shifts of `rotValue` as a rotation of eight bits, or as arithmetic on the nine bits of the byte and the carry. -/

theorem rotValue_rlc : ∀ (v : Byte) (c : Bool), (rotValue .rlc v c).1 = v.rotateLeft 1 := by decide

theorem rotValue_rrc : ∀ (v : Byte) (c : Bool), (rotValue .rrc v c).1 = v.rotateRight 1 := by decide

theorem rotValue_rl : ∀ (v : Byte) (c : Bool), (rotValue .rl v c).1 = BitVec.ofNat 8 (2 * v.toNat + c.toNat) := by decide

theorem rotValue_rr : ∀ (v : Byte) (c : Bool), (rotValue .rr v c).1 = BitVec.ofNat 8 (v.toNat / 2 + 128 * c.toNat) := by decide

/-- An accumulator rotate puts the value of `rotValue` in A and its carry in C, and clears Z. -/
theorem exec_rotA {i : Instr} {s : State} {x : Shape} {op : RotOp} {v : Byte} (h : i.shape = x)
    (run : Shape.run x = executeDefault (.plain 1 4) fun s => s.putResult (.reg .a) (rotA8 op s.regs.a s.flagC))
    (value : (rotValue op s.regs.a s.flagC).1 = v) :
    WritesA i s v false false false (rotValue op s.regs.a s.flagC).2 1 4 := by
  subst value
  exact (exec_putA (s := s) h run rfl rfl :)

/-- Settles O20: each result is that of `rotValue`, by its law above. -/
theorem accumulatorRotates : Obligations.AccumulatorRotates := by
  unfold Obligations.AccumulatorRotates
  intro i s
  simp only [← flagC_toNat]
  exact ⟨fun h => exec_rotA h rfl (rotValue_rlc ..), fun h => exec_rotA h rfl (rotValue_rrc ..),
    fun h => exec_rotA h rfl (rotValue_rl ..), fun h => exec_rotA h rfl (rotValue_rr ..)⟩

end Sys2Proof.Machine

namespace Sys2Proof.Machine

/-! ## 16-bit arithmetic (42_alu16.md)

Every rule writes one pair, and all but INC rr and DEC rr write the four flags after it. What a pair holds is read by `getPair`,
which is the statement's `pairValue`. -/

theorem getPair_eq_pairValue (s : State) (p : Pair16) : s.getPair p = pairValue s p := by cases p <;> rfl

@[simp] theorem getPair_setHaltBug (s : State) (b : Bool) (p : Pair16) :
    State.getPair { s with haltBug := b } p = s.getPair p := by cases p <;> rfl

/-! ### INC rr and DEC rr (R321, R322) -/

/-- The effect of `INC rr` and `DEC rr`: the pair moves by 1 or by -1. -/
def movePair (p : Pair16) (step : Word) (s : State) : State := s.setPair p (s.getPair p + step)

theorem run_movePair {x : Shape} {p : Pair16} {step : Word} (h : x = .incPair p ∧ step = 1 ∨ x = .decPair p ∧ step = -1) :
    Shape.run x = executeDefault (.plain 1 8) (movePair p step) := by
  obtain ⟨rfl, rfl⟩ | ⟨rfl, rfl⟩ := h
  · rfl
  · simp only [Shape.run, runDecPair, BitVec.sub_eq_add_neg]
    rfl

theorem movePair_setHaltBug (p : Pair16) (step : Word) (s : State) (b : Bool) :
    movePair p step { s with haltBug := b } = { movePair p step s with haltBug := b } := by
  simp only [movePair, getPair_setHaltBug, setPair_setHaltBug]

/-- Settles O22: both directions are one effect, the write of one pair, with the step as its parameter. -/
theorem incrementDecrementPair : Obligations.IncrementDecrementPair := by
  unfold Obligations.IncrementDecrementPair
  simp only [← getPair_eq_pairValue]
  exact fun i s p step h => ⟨_, exec_eq_retired rfl (run_movePair h) (movePair_setHaltBug p step s false),
    (retired_getPair ..).trans (setPair_getPair_same s p _), (regsKept_setPair s p _).retired, fun hp => setPair_sp_of_ne s hp _,
    setPair_f s p _, retires_retired _, (onlyCpu_setPair s p _).storesNothing⟩

/-! ### The additions that write the flags (R320, R325, R326) -/

theorem setFlags_getPair (s : State) (z n h c : Bool) (p : Pair16) : (s.setFlags z n h c).getPair p = s.getPair p := by
  cases p <;> rfl

theorem flagsAre_setFlags (s : State) (z n h c : Bool) : FlagsAre (s.setFlags z n h c) z n h c :=
  flagsAre_setResultFlags s ⟨0, z, n, h, c⟩

/-- A rule that writes `v` to a pair and then the four flags. -/
theorem exec_setPairFlags {i : Instr} {s : State} {x : Shape} {len cyc : Nat} {f : State → State} {p : Pair16} {v : Word}
    {z n hc c : Bool} (h : i.shape = x) (run : Shape.run x = executeDefault (.plain len cyc) f)
    (hf : f { s with haltBug := false } = { f s with haltBug := false })
    (effect : f s = (s.setPair p v).setFlags z n hc c) :
    ∃ t, exec i s = .next t ∧ t.getPair p = v ∧ FlagsAre t z n hc c ∧ RegsKept (pairRegs p) s t ∧
      (p ≠ .sp → t.regs.sp = s.regs.sp) ∧ Retires s t len cyc ∧ StoresNothing s t :=
  have onlyCpu : OnlyCpu s ((s.setPair p v).setFlags z n hc c) := (onlyCpu_setPair s p v).trans rfl
  have value : ((s.setPair p v).setFlags z n hc c).getPair p = v :=
    (setFlags_getPair ..).trans (setPair_getPair_same s p v)
  have kept : RegsKept (pairRegs p) s ((s.setPair p v).setFlags z n hc c) := fun r hr =>
    (setFlags_getReg _ z n hc c r).trans (regsKept_setPair s p v r hr)
  ⟨_, effect ▸ exec_eq_retired h run hf, (retired_getPair ..).trans value, flagsAre_setFlags (s.setPair p v) z n hc c,
    kept.retired, fun hp => setPair_sp_of_ne s hp v, retires_retired _, onlyCpu.storesNothing⟩

/-- The effect of `ADD HL,rr`. -/
def addPair (p : Pair16) (s : State) : State :=
  (s.setPair .hl (s.hl + s.getPair p)).setFlags s.flagZ false (addHlH s.hl (s.getPair p)) (addHlC s.hl (s.getPair p))

theorem addPair_setHaltBug (p : Pair16) (s : State) (b : Bool) :
    addPair p { s with haltBug := b } = { addPair p s with haltBug := b } := by
  simp only [addPair, getPair_setHaltBug]
  rfl

/-- Settles O21: the sum of the two words is that of the two numbers modulo 65536; Z is written as it stood. -/
theorem addPairToHl : Obligations.AddPairToHl := by
  unfold Obligations.AddPairToHl
  intro i s p h
  rw [← getPair_eq_pairValue]
  obtain ⟨t, next, value, flags, kept, sp, retires, nothing⟩ :=
    exec_setPairFlags h rfl (addPair_setHaltBug p s false) rfl
  exact ⟨t, next, value.trans (BitVec.add_def ..), flags, kept, sp (by decide), retires, nothing⟩

/-- The effect of `ADD SP,e8` and `LD HL,SP+e8`, with the pair that takes the sum. -/
def addOffset (e : Byte) (p : Pair16) (s : State) : State :=
  (s.setPair p (s.regs.sp + Byte.sext e)).setFlags false false (addSpH s.regs.sp e) (addSpC s.regs.sp e)

theorem addOffset_setHaltBug (e : Byte) (p : Pair16) (s : State) (b : Bool) :
    addOffset e p { s with haltBug := b } = { addOffset e p s with haltBug := b } := by
  simp only [addOffset, setPair_setHaltBug]
  rfl

/-- Adding the sign extension adds the signed number, modulo 65536 (R9). -/
theorem add_sext_eq_ofInt (w : Word) (e : Byte) : w + Byte.sext e = BitVec.ofInt 16 ((w.toNat : Int) + e.toInt) := by
  rw [BitVec.ofInt_add, BitVec.ofInt_natCast, BitVec.ofNat_toNat, BitVec.setWidth_eq]
  rfl

/-- Settles O23: both rules are one effect, with SP or HL as the pair that takes the sum. -/
theorem addSignedOffsetToSp : Obligations.AddSignedOffsetToSp := by
  unfold Obligations.AddSignedOffsetToSp
  intro i s e
  simp only [← add_sext_eq_ofInt]
  refine ⟨fun h => ?_, fun h => ?_⟩
  · obtain ⟨t, next, value, flags, kept, -, retires, nothing⟩ :=
      exec_setPairFlags h rfl (addOffset_setHaltBug e .sp s false) rfl
    exact ⟨t, next, value, flags, kept, retires, nothing⟩
  · obtain ⟨t, next, value, flags, kept, sp, retires, nothing⟩ :=
      exec_setPairFlags h rfl (addOffset_setHaltBug e .hl s false) rfl
    exact ⟨t, next, value, flags, kept, sp (by decide), retires, nothing⟩

end Sys2Proof.Machine

namespace Sys2Proof.Machine

/-! ## The CB table (R339-R352)

Every rule takes its operand by R339, from a register or from the byte at HL, and its cost depends on which of the two it is. The
rotates and shifts put a result and its flags there, RES and SET a value alone, and BIT writes the flags alone. -/

theorem getLoc_eq_locValue (s : State) (l : Loc8) : s.getLoc l = locValue s l := by cases l <;> rfl

@[simp] theorem getLoc_setHaltBug (s : State) (b : Bool) (l : Loc8) : State.getLoc { s with haltBug := b } l = s.getLoc l := by
  cases l with
  | reg r => cases r <;> rfl
  | atHl => exact memRead_setHaltBug s b s.hl

@[simp] theorem setLoc_setHaltBug (s : State) (b : Bool) (l : Loc8) (v : Byte) :
    State.setLoc { s with haltBug := b } l v = { s.setLoc l v with haltBug := b } := by
  cases l with
  | reg r => exact setReg_setHaltBug s b r v
  | atHl => exact memWrite_setHaltBug s.hl v s b

theorem setLoc_sp (s : State) (l : Loc8) (v : Byte) : (s.setLoc l v).regs.sp = s.regs.sp := by
  cases l with
  | reg r => exact setReg_sp s r v
  | atHl => exact congrArg Regs.sp (memWrite_regs s.hl v s)

theorem setLoc_f (s : State) (l : Loc8) (v : Byte) : (s.setLoc l v).regs.f = s.regs.f := by
  cases l with
  | reg r => exact setReg_f s r v
  | atHl => exact congrArg Regs.f (memWrite_regs s.hl v s)

theorem writesLoc_setLoc (s : State) (l : Loc8) (v : Byte) (len cyc : Nat) :
    WritesLoc s (retired len cyc s (s.setLoc l v)) v l := by
  cases l with
  | reg r =>
    exact ⟨(retired_getReg ..).trans (setReg_getReg_same s r v), (regsKept_setReg s r v).retired,
      (onlyCpu_setReg s r v).storesNothing⟩
  | atHl => exact ⟨(regsKept_memWrite s s.hl v).retired, OnlyCpu.storesByte rfl⟩

theorem rmwDescriptor_eq (l : Loc8) : rmwDescriptor l = .plain 2 (locCycles 8 16 l) := by cases l <;> rfl

theorem bitDescriptor_eq (l : Loc8) : bitDescriptor l = .plain 2 (locCycles 8 12 l) := by cases l <;> rfl

/-! ### The rotates, the shifts and SWAP (R340-R347) -/

theorem rotValue_sla : ∀ (v : Byte) (c : Bool), (rotValue .sla v c).1 = BitVec.ofNat 8 (2 * v.toNat) := by decide

theorem rotValue_sra : ∀ (v : Byte) (c : Bool), (rotValue .sra v c).1 = BitVec.ofInt 8 (v.toInt / 2) := by decide

theorem rotValue_swap : ∀ (v : Byte) (c : Bool), (rotValue .swap v c).1 = v.rotateLeft 4 := by decide

theorem rotValue_srl : ∀ (v : Byte) (c : Bool), (rotValue .srl v c).1 = BitVec.ofNat 8 (v.toNat / 2) := by decide

/-- A rotate or shift puts the value of `rotValue` in its operand and its carry in C, with Z read off the value. -/
theorem exec_rot {i : Instr} {s : State} {op : RotOp} {l : Loc8} {v : Byte} (h : i.shape = .rot op l)
    (value : (rotValue op (locValue s l) s.flagC).1 = v) : Rotates i s l v (rotValue op (locValue s l) s.flagC).2 := by
  subst value
  have run : Shape.run (.rot op l) = executeDefault (.plain 2 (locCycles 8 16 l)) fun s =>
      s.putResult l (rot8 op (s.getLoc l) s.flagC) := by
    rw [← rmwDescriptor_eq]
    rfl
  exact (exec_putResult h run (congrArg (rot8 op · s.flagC) (getLoc_setHaltBug s false l))
    (congrArg (rot8 op · s.flagC) (getLoc_eq_locValue s l)) :)

/-- Settles O24: each result is that of `rotValue`, by the law that the accumulator rotate of the same name has too. -/
theorem cbRotates : Obligations.CbRotates := by
  unfold Obligations.CbRotates
  intro i s l
  simp only [← flagC_toNat]
  exact ⟨fun h => exec_rot h (rotValue_rlc ..), fun h => exec_rot h (rotValue_rrc ..),
    fun h => exec_rot h (rotValue_rl ..), fun h => exec_rot h (rotValue_rr ..)⟩

/-- Settles O25: each result is that of `rotValue`, by its law above. -/
theorem cbShiftsAndSwap : Obligations.CbShiftsAndSwap := by
  unfold Obligations.CbShiftsAndSwap
  exact fun i s l => ⟨fun h => exec_rot h (rotValue_sla ..), fun h => exec_rot h (rotValue_sra ..),
    fun h => exec_rot h (rotValue_swap ..), fun h => exec_rot h (rotValue_srl ..)⟩

/-! ### The bit operations (R350-R352) -/

/-- The effect of `BIT b,r`. -/
def testBit (b : BitVec 3) (l : Loc8) (s : State) : State :=
  s.setFlags (!Byte.bit (s.getLoc l) b.toNat) false true s.flagC

theorem run_bit (b : BitVec 3) (l : Loc8) :
    Shape.run (.bit b l) = executeDefault (.plain 2 (locCycles 8 12 l)) (testBit b l) := by
  rw [← bitDescriptor_eq]
  rfl

theorem testBit_setHaltBug (b : BitVec 3) (l : Loc8) (s : State) (x : Bool) :
    testBit b l { s with haltBug := x } = { testBit b l s with haltBug := x } := by
  simp only [testBit, getLoc_setHaltBug]
  rfl

/-- Settles O26: the effect writes F alone, so that every frame is that of `setFlags`. -/
theorem bitTest : Obligations.BitTest := by
  unfold Obligations.BitTest
  intro i s b l h
  rw [← getLoc_eq_locValue]
  have kept : RegsKept [] s (testBit b l s) := fun r _ => setFlags_getReg s _ _ _ _ r
  exact ⟨_, exec_eq_retired h (run_bit b l) (testBit_setHaltBug b l s false), flagsAre_setFlags s _ false true s.flagC,
    kept.retired, rfl, retires_retired _, OnlyCpu.storesNothing rfl⟩

theorem getLsbD_bitMask {n : Nat} (hn : n < 8) (k : Nat) : (1#8 <<< n).getLsbD k = decide (k = n) := by
  rw [← BitVec.twoPow_eq, BitVec.getLsbD_twoPow]
  simp [hn, eq_comm]

theorem getLsbD_setBit (v : Byte) {n : Nat} (hn : n < 8) (k : Nat) :
    (Byte.setBit v n).getLsbD k = if k = n then true else v.getLsbD k := by
  rw [Byte.setBit, BitVec.getLsbD_or, getLsbD_bitMask hn]
  by_cases hk : k = n <;> simp [hk]

theorem getLsbD_clearBit (v : Byte) {n : Nat} (hn : n < 8) (k : Nat) :
    (Byte.clearBit v n).getLsbD k = if k = n then false else v.getLsbD k := by
  rw [Byte.clearBit, BitVec.getLsbD_and, BitVec.getLsbD_not, getLsbD_bitMask hn]
  by_cases hk : k = n
  · simp [hk]
  · simpa [hk] using BitVec.lt_of_getLsbD

/-- A rule that changes its operand by `g` and no flag. -/
theorem exec_modifyLoc {i : Instr} {s : State} {x : Shape} {l : Loc8} {g : Byte → Byte} (h : i.shape = x)
    (run : Shape.run x = executeDefault (rmwDescriptor l) fun s => s.setLoc l (g (s.getLoc l))) :
    ∃ t, exec i s = .next t ∧ WritesLoc s t (g (locValue s l)) l ∧ FlagsKept s t ∧ t.regs.sp = s.regs.sp ∧
      Retires s t 2 (locCycles 8 16 l) := by
  rw [rmwDescriptor_eq] at run
  rw [← getLoc_eq_locValue]
  exact ⟨_, exec_eq_retired h run (by simp only [getLoc_setHaltBug, setLoc_setHaltBug]), writesLoc_setLoc s l _ _ _,
    setLoc_f s l _, setLoc_sp s l _, retires_retired _⟩

/-- Settles O27: RES changes its operand by `clearBit` and SET by `setBit`, each of which changes the one bit. -/
theorem bitResetAndSet : Obligations.BitResetAndSet := by
  unfold Obligations.BitResetAndSet
  rintro i s b l on (⟨h, rfl⟩ | ⟨h, rfl⟩)
  · have ⟨t, next, writes, kept⟩ := exec_modifyLoc (s := s) (g := (Byte.clearBit · b.toNat)) h rfl
    exact ⟨t, _, next, writes, getLsbD_clearBit _ b.isLt, kept⟩
  · have ⟨t, next, writes, kept⟩ := exec_modifyLoc (s := s) (g := (Byte.setBit · b.toNat)) h rfl
    exact ⟨t, _, next, writes, getLsbD_setBit _ b.isLt, kept⟩

end Sys2Proof.Machine

namespace Sys2Proof.Machine

/-! ## Control transfers (44_control.md)

A handler that returns `Jumped` or `JumpedActionTaken` has set PC itself, so retirement leaves its effect as it is but for the cycle
count (R171). The effects are those of the model: `setPc`, `callTo`, `popPc` and `returnFromInterrupt`. -/

/-- What retirement makes of the state `u` that a transfer's handler left. -/
def jumped (cyc : Nat) (u : State) : State := { u with haltBug := false, cycles := cyc }

section Execution

variable {i : Instr} {s : State} {x : Shape} {f : Word → State → State}

/-- An unconditional transfer leaves the effect of its handler (R380). -/
theorem exec_jump {len cyc : Nat} (h : i.shape = x) (run : Shape.run x = executeJump (.plain len cyc) f)
    (hf : ∀ npc, f npc { s with haltBug := false } = { f npc s with haltBug := false }) :
    exec i s = .next (jumped cyc (f (s.npc len) s)) := by
  rw [exec_shape, h, run, executeJump_eq, hf]
  rfl

/-- A conditional transfer leaves the effect of its handler when its condition holds, and else only moves past itself (R380). -/
theorem exec_cond {cc : Cond} {len base alternate : Nat} (h : i.shape = x)
    (run : Shape.run x s = executeCond ⟨len, base, alternate⟩ (s.cond cc) f s)
    (hf : ∀ npc, f npc { s with haltBug := false } = { f npc s with haltBug := false }) :
    (CondHolds s.regs.f cc → exec i s = .next (jumped alternate (f (s.npc len) s))) ∧
      (¬ CondHolds s.regs.f cc → FallsThrough i s len base) := by
  rw [← cond_iff_condHolds]
  refine ⟨fun taken => ?_, fun notTaken => ?_⟩
  · rw [exec_shape, h, run, executeCond_taken _ _ taken, hf]
    rfl
  · have next : exec i s = .next (retired len base s s) := by
      rw [exec_shape, h, run, executeCond_notTaken _ _ (Bool.eq_false_iff.mpr notTaken)]
      rfl
    exact ⟨_, next, retires_retired s, fun r _ => retired_getReg s r, rfl, rfl, OnlyCpu.storesNothing rfl⟩

end Execution

/-- Retirement of a transfer changes no 8-bit register. -/
theorem RegsKept.jumped {e : List Reg8} {s u : State} {cyc : Nat} (h : RegsKept e s u) : RegsKept e s (jumped cyc u) := fun r hr =>
  calc (Machine.jumped cyc u).getReg r
    _ = u.getReg r := by cases r <;> rfl
    _ = s.getReg r := h r hr

theorem RegsKept.setPc {e : List Reg8} {s u : State} (h : RegsKept e s u) (v : Word) : RegsKept e s (u.setPc v) := fun r hr =>
  (setPc_getReg u v r).trans (h r hr)

/-! ### Jumps (R381-R383, R390, R391) -/

/-- An instruction whose effect is a write of PC is a jump. -/
theorem jumpsTo_of_exec {i : Instr} {s : State} {target : Word} {cyc : Nat}
    (next : exec i s = .next (jumped cyc (s.setPc target))) : JumpsTo i s target cyc :=
  have kept : RegsKept [] s (s.setPc target) := fun r _ => setPc_getReg s target r
  have onlyCpu : OnlyCpu s (jumped cyc (s.setPc target)) := rfl
  ⟨_, next, ⟨rfl, rfl, rfl⟩, kept.jumped, rfl, rfl, onlyCpu, onlyCpu.bytesKept⟩

/-- Settles O28: each effect writes PC with an address that the handler reads off the operand or HL. -/
theorem absoluteJumps : Obligations.AbsoluteJumps := by
  unfold Obligations.AbsoluteJumps
  exact fun i s => ⟨fun aa h => jumpsTo_of_exec (exec_jump (f := fun _ s => s.setPc aa) h rfl fun _ => rfl),
    fun h => jumpsTo_of_exec (exec_jump (f := fun _ s => s.setPc s.hl) h rfl fun _ => rfl),
    fun cc aa h => (exec_cond (f := fun _ s => s.setPc aa) h rfl fun _ => rfl).imp_left
      fun taken hc => jumpsTo_of_exec (taken hc)⟩

/-- Settles O29: each effect writes PC with the next instruction's address plus the sign extension of the offset. -/
theorem relativeJumps : Obligations.RelativeJumps := by
  unfold Obligations.RelativeJumps
  intro i s e
  simp only [← add_sext_eq_ofInt]
  exact ⟨fun h => jumpsTo_of_exec (exec_jump (f := fun npc s => s.setPc (npc + Byte.sext e)) h rfl fun _ => rfl),
    fun cc h => (exec_cond (f := fun npc s => s.setPc (npc + Byte.sext e)) h rfl fun _ => rfl).imp_left
      fun taken hc => jumpsTo_of_exec (taken hc)⟩

/-! ### Calls (R392, R393, R396) -/

theorem callTo_setHaltBug (target npc : Word) (s : State) (b : Bool) :
    callTo target npc { s with haltBug := b } = { callTo target npc s with haltBug := b } :=
  congrArg (State.setPc · target) (push16_setHaltBug npc s b)

/-- What two stores left still stands after a change of CPU registers. -/
theorem StoresTwo.trans_onlyCpu {s t u : State} {a₁ a₂ : Word} {v₁ v₂ : Byte} (h : StoresTwo s t a₁ v₁ a₂ v₂)
    (k : OnlyCpu t u) : StoresTwo s u a₁ v₁ a₂ v₂ :=
  have ⟨stored, kept⟩ := h
  ⟨stored.trans k, fun b h₁ h₂ => (k.bytesKept b).trans (kept b h₁ h₂)⟩

/-- An instruction whose effect is a push of the next address and a write of PC is a call. -/
theorem callsTo_of_exec {i : Instr} {s : State} {target : Word} {len cyc : Nat}
    (next : exec i s = .next (jumped cyc (callTo target (s.npc len) s))) : CallsTo i s target len cyc :=
  have pushed : StoresTwo s (retired len cyc s (push16 (s.npc len) s)) _ _ _ _ := (onlyCpu_push16 (s.npc len) s).storesTwo
  ⟨_, next, ⟨rfl, rfl, rfl⟩, ⟨push16_sp (s.npc len) s, pushed.trans_onlyCpu rfl⟩,
    ((regsKept_push16 (s.npc len) s).setPc target).jumped, push16_f (s.npc len) s⟩

/-- The restart vector of R396, multiplied in 16 bits or as a number. -/
theorem restartVector_eq : ∀ y : BitVec 3, 8 * y.zeroExtend 16 = BitVec.ofNat 16 (y.toNat * 8) := by decide

/-- Settles O30: the three rules have one effect, and differ in the target and in when they take it. -/
theorem calls : Obligations.Calls := by
  unfold Obligations.Calls
  simp only [← restartVector_eq]
  exact fun i s => ⟨fun aa h => callsTo_of_exec (exec_jump h rfl (callTo_setHaltBug aa · s false)),
    fun cc aa h => (exec_cond h rfl (callTo_setHaltBug aa · s false)).imp_left fun taken hc => callsTo_of_exec (taken hc),
    fun y h => callsTo_of_exec (exec_jump h rfl (callTo_setHaltBug _ · s false))⟩

/-! ### Returns (R394, R395, R397) -/

theorem popPc_setHaltBug (s : State) (b : Bool) : popPc { s with haltBug := b } = { popPc s with haltBug := b } := by
  simp only [popPc, popSp_setHaltBug, popValue_setHaltBug]
  rfl

theorem returnFromInterrupt_setHaltBug (s : State) (b : Bool) :
    returnFromInterrupt { s with haltBug := b } = { returnFromInterrupt s with haltBug := b } := by
  simp only [returnFromInterrupt, popSp_setHaltBug, popValue_setHaltBug]
  rfl

theorem regsKept_popPc (s : State) : RegsKept [] s (popPc s) := (regsKept_setSp s _).setPc _

theorem regsKept_returnFromInterrupt (s : State) : RegsKept [] s (returnFromInterrupt s) := regsKept_popPc s

/-- An instruction whose effect is a pop of PC is a return. -/
theorem returnsWith_of_exec {i : Instr} {s : State} {cyc : Nat} (next : exec i s = .next (jumped cyc (popPc s))) :
    ReturnsWith i s cyc :=
  have onlyCpu : OnlyCpu s (jumped cyc (popPc s)) := rfl
  ⟨_, next, ⟨rfl, rfl, rfl⟩, rfl, (regsKept_popPc s).jumped, rfl, onlyCpu, onlyCpu.bytesKept⟩

/-- Settles O31: RET and RET cc pop PC; RETI does so and enables interrupts at once, on which no byte of memory depends. -/
theorem returns : Obligations.Returns := by
  unfold Obligations.Returns
  refine fun i s => ⟨fun h => returnsWith_of_exec (exec_jump (f := fun _ s => popPc s) h rfl fun _ => popPc_setHaltBug s false),
    fun cc h => (exec_cond (f := fun _ s => popPc s) h rfl fun _ => popPc_setHaltBug s false).imp_left
      fun taken hc => returnsWith_of_exec (taken hc),
    fun h => ?_⟩
  have next : exec i s = .next (jumped 16 (returnFromInterrupt s)) :=
    exec_jump (f := fun _ s => returnFromInterrupt s) h rfl fun _ => returnFromInterrupt_setHaltBug s false
  have onlyCpu : OnlyCpu { s with ime := true, eiDelay := 0 } (jumped 16 (returnFromInterrupt s)) := rfl
  have enabled : BytesKept s { s with ime := true, eiDelay := 0 } := fun a => memRead_congr s ..
  exact ⟨_, next, ⟨rfl, rfl, rfl⟩, rfl, rfl, rfl, (regsKept_returnFromInterrupt s).jumped, rfl, onlyCpu,
    fun a => (onlyCpu.bytesKept a).trans (enabled a)⟩

end Sys2Proof.Machine

namespace Sys2Proof.Machine

/-! ## The system instructions (45_system.md)

Each returns `Default`. The effect of HALT may set `halt_bug`, so it is not the effect on the state the instruction began in,
`retired`: `halt_bug` is cleared before the effect runs, and not after it. -/

section

variable {i : Instr} (s : State)

/-- A rule that runs `f` under the type `Default` clears `halt_bug`, has the effect of `f`, and retires. -/
theorem exec_default {x : Shape} {len cyc : Nat} {f : State → State} (h : i.shape = x)
    (run : Shape.run x = executeDefault (.plain len cyc) f) :
    exec i s = .next { (f { s with haltBug := false }).setPc (nextPc s len) with cycles := cyc } := by
  rw [exec_shape, h, run, executeDefault_eq]
  rfl

theorem exec_ei (h : i.shape = .ei) :
    exec i s = .next { s with
      regs := { s.regs with pc := nextPc s 1 }, haltBug := false, cycles := 4,
      eiDelay := if s.eiDelay = 0 then 2 else s.eiDelay } := by
  rw [exec_default (f := fun s => if s.eiDelay = 0 then { s with eiDelay := 2 } else s) s h rfl]
  by_cases delay : s.eiDelay = 0 <;> simp [delay, State.setPc]

theorem enterHalt_of_bug (h : s.params.haltBugMode = .hardware ∧ s.ime = false ∧ s.pending ≠ 0) :
    enterHalt s = { s with haltBug := true } := if_pos h

theorem enterHalt_of_noBug (h : ¬ (s.params.haltBugMode = .hardware ∧ s.ime = false ∧ s.pending ≠ 0)) :
    enterHalt s = { s with halted := true } := if_neg h

theorem enterHalt_eiDelay : (enterHalt s).eiDelay = s.eiDelay := by unfold enterHalt; split <;> rfl

end

/-- Settles O32: NOP and STOP are their effect and then retirement; HALT is `enterHalt`, whose test does not read `halt_bug`. -/
theorem noOperationStopAndHalt : Obligations.NoOperationStopAndHalt := by
  unfold Obligations.NoOperationStopAndHalt
  refine fun i s => ⟨fun h => exec_default (f := fun s => s) s h rfl,
    fun x h => exec_default (f := ({ · with stopped := true })) s h rfl, fun h => ⟨fun bug => ?_, fun noBug => ?_⟩⟩
  · rw [exec_default s h rfl, enterHalt_of_bug { s with haltBug := false } bug]
    rfl
  · rw [exec_default s h rfl, enterHalt_of_noBug { s with haltBug := false } noBug]
    rfl

/-! ### The control state that an instruction leaves (R36-R38) -/

/-- The CPU's control state (R36-R38), with the host's waiting button masks (log 6) and the step's events (log 7), which no
instruction changes. -/
structure Control where
  ime : Bool
  eiDelay : Fin 3
  halted : Bool
  stopped : Bool
  haltBug : Bool
  buttonsIn : List Byte
  out : List Output

/-- The control state that stands in a state of the machine. -/
def State.control (s : State) : Control where
  ime := s.ime
  eiDelay := s.eiDelay
  halted := s.halted
  stopped := s.stopped
  haltBug := s.haltBug
  buttonsIn := s.buttonsIn
  out := s.out

section

variable (s : State)

@[simp] theorem setHaltBug_control (b : Bool) : State.control { s with haltBug := b } = { s.control with haltBug := b } := rfl
@[simp] theorem setPc_control (v : Word) : (s.setPc v).control = s.control := rfl
@[simp] theorem setSp_control (v : Word) : (s.setSp v).control = s.control := rfl
@[simp] theorem setFlags_control (z n h c : Bool) : (s.setFlags z n h c).control = s.control := rfl
@[simp] theorem setReg_control (r : Reg8) (v : Byte) : (s.setReg r v).control = s.control := by cases r <;> rfl
@[simp] theorem setPair_control (p : Pair16) (v : Word) : (s.setPair p v).control = s.control := by cases p <;> rfl
@[simp] theorem setStackPair_control (q : StackPair) (v : Word) : (s.setStackPair q v).control = s.control := by cases q <;> rfl

@[simp] theorem memWrite_control (a : Word) (v : Byte) : (memWrite a v s).control = s.control := by
  rw [memWrite_eq]
  rfl

@[simp] theorem setLoc_control (l : Loc8) (v : Byte) : (s.setLoc l v).control = s.control := by
  cases l with
  | reg r => exact setReg_control s r v
  | atHl => exact memWrite_control s _ v

@[simp] theorem putResult_control (l : Loc8) (r : Result8) : (s.putResult l r).control = s.control := setLoc_control s l r.value

@[simp] theorem push16_control (v : Word) : (push16 v s).control = s.control := by
  unfold push16
  simp

@[simp] theorem popSp_control : (popSp s).control = s.control := rfl
@[simp] theorem popPc_control : (popPc s).control = s.control := rfl
@[simp] theorem callTo_control (target npc : Word) : (callTo target npc s).control = s.control := push16_control s npc

/-- The control state after an instruction of the given rule: five rules may have an effect on it, and every other one only uses up a
halt bug. -/
def Shape.controlAfter (x : Shape) (s : State) : Control :=
  match x with
  | .halt => (enterHalt { s with haltBug := false }).control
  | .stop _ => { s.control with haltBug := false, stopped := true }
  | .di => { s.control with haltBug := false, ime := false, eiDelay := 0 }
  | .ei => { s.control with haltBug := false, eiDelay := if s.eiDelay = 0 then 2 else s.eiDelay }
  | .reti => { s.control with haltBug := false, ime := true, eiDelay := 0 }
  | _ => { s.control with haltBug := false }

variable (d : Descriptor)

theorem executeDefault_control {f : State → State} (hf : ∀ t, (f t).control = t.control) :
    ∃ t, executeDefault d f s = .next t ∧ t.control = { s.control with haltBug := false } := ⟨_, rfl, hf _⟩

theorem executeJump_control {f : Word → State → State} (hf : ∀ npc t, (f npc t).control = t.control) :
    ∃ t, executeJump d f s = .next t ∧ t.control = { s.control with haltBug := false } := ⟨_, rfl, hf _ _⟩

theorem executeCond_control (b : Bool) {f : Word → State → State} (hf : ∀ npc t, (f npc t).control = t.control) :
    ∃ t, executeCond d b f s = .next t ∧ t.control = { s.control with haltBug := false } := by
  cases b with
  | false => exact ⟨_, executeCond_notTaken d _ rfl f s, rfl⟩
  | true => exact ⟨_, executeCond_taken d _ rfl f s, hf _ _⟩

/-- Every instruction completes, in the control state that its rule gives. -/
theorem exec_control (i : Instr) : ∃ t, exec i s = .next t ∧ t.control = Shape.controlAfter i.shape s := by
  rw [exec_shape]
  unfold Shape.run
  cases i.shape with
  | halt | stop | di | reti => exact ⟨_, rfl, rfl⟩
  | ei =>
    refine ⟨_, executeDefault_eq .., ?_⟩
    by_cases h : s.eiDelay = 0 <;> simp [Shape.controlAfter, State.control, h]
  | jp | jpHl | jr | call | rst | ret => exact executeJump_control s _ (by simp)
  | jpCond | jrCond | callCond | retCond => exact executeCond_control s _ _ (by simp)
  | _ => exact executeDefault_control s _ (by simp)

end

/-! ### The deferred enable (R430, R431, R490) -/

theorem endOfStep_of_eiDelay_zero {s : State} (h : s.eiDelay = 0) : endOfStep s = s := by
  unfold endOfStep
  rw [h]

theorem endOfStep_of_eiDelay_one {s : State} (h : s.eiDelay = 1) : endOfStep s = { s with eiDelay := 0, ime := true } := by
  unfold endOfStep
  rw [h]

theorem endOfStep_of_eiDelay_two {s : State} (h : s.eiDelay = 2) : endOfStep s = { s with eiDelay := 1 } := by
  unfold endOfStep
  rw [h]

/-- While a delay of 1 runs, DI and RETI end it themselves, and every other instruction leaves it to the end of the step. -/
theorem controlAfter_of_eiDelay_one (x : Shape) {s : State} (delay : s.eiDelay = 1) :
    x = .di ∧ (Shape.controlAfter x s).ime = false ∧ (Shape.controlAfter x s).eiDelay = 0 ∨
      x ≠ .di ∧ (Shape.controlAfter x s).ime = true ∧ (Shape.controlAfter x s).eiDelay = 0 ∨
      x ≠ .di ∧ (Shape.controlAfter x s).eiDelay = 1 := by
  cases x with
  | di => exact .inl ⟨rfl, rfl, rfl⟩
  | reti => exact .inr (.inl ⟨nofun, rfl, rfl⟩)
  | halt => exact .inr (.inr ⟨nofun, (enterHalt_eiDelay _).trans delay⟩)
  | ei => exact .inr (.inr ⟨nofun, by simp [Shape.controlAfter, delay]⟩)
  | _ => exact .inr (.inr ⟨nofun, delay⟩)

/-- Settles O33: DI and EI are read off their rules. Of the instructions that may run while a delay of 1 does, DI and RETI end the
delay themselves, DI with IME clear and RETI with IME set; after every other one the end of the step finds the delay and sets IME. -/
theorem enableTakesEffectOneInstructionLater : Obligations.EnableTakesEffectOneInstructionLater := by
  unfold Obligations.EnableTakesEffectOneInstructionLater
  refine ⟨fun i s => ?_, fun t => endOfStep_of_eiDelay_zero⟩
  refine ⟨fun h => exec_default (f := ({ · with ime := false, eiDelay := 0 })) s h rfl, exec_ei s, fun h ime delay => ?_,
    fun _ delay => ?_⟩
  · refine ⟨_, exec_ei s h, ?_⟩
    rw [endOfStep_of_eiDelay_two (if_pos delay)]
    exact ⟨ime, rfl⟩
  · obtain ⟨t, next, control⟩ := exec_control s i
    have ime : t.ime = (Shape.controlAfter i.shape s).ime := congrArg Control.ime control
    have left : t.eiDelay = (Shape.controlAfter i.shape s).eiDelay := congrArg Control.eiDelay control
    refine ⟨t, next, ?_⟩
    rcases controlAfter_of_eiDelay_one i.shape delay with ⟨di, off, zero⟩ | ⟨notDi, on, zero⟩ | ⟨notDi, one⟩
    · rw [endOfStep_of_eiDelay_zero (left.trans zero)]
      exact ⟨left.trans zero, iff_of_true (ime.trans off) di⟩
    · rw [endOfStep_of_eiDelay_zero (left.trans zero)]
      exact ⟨left.trans zero, iff_of_false (by simp [ime.trans on]) notDi⟩
    · rw [endOfStep_of_eiDelay_one (left.trans one)]
      exact ⟨rfl, iff_of_false Bool.true_eq_false_eq_False notDi⟩

end Sys2Proof.Machine

namespace Sys2Proof.Machine

/-! ## The timer (R510, R511) -/

section TimerLaws

/-- The cycles per TIMA increment by the speed code as a number (R510). -/
def periodOfCode : Nat → Nat
  | 0 => 1024
  | 1 => 16
  | 2 => 64
  | _ => 256

/-- The speed code is the two low bits of TAC, as a number its remainder modulo 4. -/
theorem timaPeriod_eq (tac : Byte) : timaPeriod tac = periodOfCode (tac.toNat % 4) :=
  congrArg periodOfCode (BitVec.extractLsb'_toNat 0 2 tac)

/-- The increments of TIMA in an advance by `n` cycles: the whole periods, and none while TAC[2] is 0 (R510). -/
def Timer.ticks (n : Nat) (t : Timer) : Nat := if Byte.bit t.tac 2 then (t.timaSub + n) / timaPeriod t.tac else 0

theorem ofNat_toNat_add (b : Byte) (k : Nat) : BitVec.ofNat 8 (b.toNat + k) = b + BitVec.ofNat 8 k := by
  rw [BitVec.ofNat_add, BitVec.ofNat_toNat, BitVec.setWidth_eq]

theorem ofNat_eq_full_iff (m : Nat) : BitVec.ofNat 8 m = 0xFF ↔ m % 256 = 255 := by
  rw [← BitVec.toNat_inj]
  exact Iff.rfl

/-- TIMA after `k` increments. The increment that takes it past 0xFF overflows; a later overflow finds one pending. -/
theorem timerTick_iterate (k : Nat) (t : Timer) :
    Timer.tick^[k] t = { t with
      tima := BitVec.ofNat 8 (t.tima.toNat + k)
      overflowPending := t.overflowPending || decide (0xFF < t.tima.toNat + k) } := by
  induction k with
  | zero =>
    have fits : ¬ 0xFF < t.tima.toNat := by have := t.tima.isLt; omega
    simp [fits]
  | succ k ih =>
    rw [Function.iterate_succ_apply', ih, ← Nat.add_assoc]
    unfold Timer.tick
    by_cases full : BitVec.ofNat 8 (t.tima.toNat + k) = 0xFF
    · have wraps : BitVec.ofNat 8 (t.tima.toNat + k + 1) = 0 := by rw [BitVec.ofNat_add, full]; rfl
      have past : 0xFF < t.tima.toNat + k + 1 := by have := (ofNat_eq_full_iff _).mp full; omega
      simp only [if_pos full, wraps, past, decide_true, Bool.or_true]
    · have next : BitVec.ofNat 8 (t.tima.toNat + k) + 1 = BitVec.ofNat 8 (t.tima.toNat + k + 1) := BitVec.ofNat_add .. |>.symm
      have same : 0xFF < t.tima.toNat + k ↔ 0xFF < t.tima.toNat + k + 1 := by
        have := mt (ofNat_eq_full_iff _).mpr full
        omega
      simp only [if_neg full, next, same]

/-- The counter part of an advance in closed form (R510). -/
theorem advanceTima_eq (n : Nat) (t : Timer) :
    t.advanceTima n = { t with
      tima := BitVec.ofNat 8 (t.tima.toNat + t.ticks n)
      overflowPending := t.overflowPending || decide (0xFF < t.tima.toNat + t.ticks n)
      timaSub := if Byte.bit t.tac 2 then (t.timaSub + n) % timaPeriod t.tac else t.timaSub } := by
  unfold Timer.advanceTima Timer.ticks
  by_cases runs : Byte.bit t.tac 2 = true
  · simp only [if_pos runs, timerTick_iterate]
  · simp only [if_neg runs]
    exact timerTick_iterate 0 t

/-- The timer once a pending overflow is resolved: TIMA is reloaded, and none is left (R510). -/
def Timer.resolved (t : Timer) : Timer :=
  { t with tima := if t.overflowPending = true then t.tma else t.tima, overflowPending := false }

theorem resolveOverflow_eq (s : State) :
    resolveOverflow s = { s with
      regIF := if s.timer.overflowPending = true then s.regIF ||| 0x04 else s.regIF
      timer := s.timer.resolved } := by
  unfold resolveOverflow Timer.resolved
  by_cases pending : s.timer.overflowPending = true
  · simp only [if_pos pending]
    rfl
  · simp only [if_neg pending, ← Bool.eq_false_iff.mpr pending]

/-- The three parts of an advance, each in closed form (R510). -/
theorem timerAdvance_closed (n : Nat) (s : State) :
    timerAdvance n s = { s with
      regIF := if s.timer.overflowPending = true then s.regIF ||| 0x04 else s.regIF
      timer := { s.timer with
        div := BitVec.ofNat 8 (s.timer.div.toNat + (s.timer.divSub + n) / 256)
        divSub := (s.timer.divSub + n) % 256
        tima := BitVec.ofNat 8 (s.timer.resolved.tima.toNat + s.timer.ticks n)
        overflowPending := decide (0xFF < s.timer.resolved.tima.toNat + s.timer.ticks n)
        timaSub := if Byte.bit s.timer.tac 2 then (s.timer.timaSub + n) % timaPeriod s.timer.tac else s.timer.timaSub } } := by
  change { resolveOverflow s with timer := ((resolveOverflow s).timer.advanceDiv n).advanceTima n } = _
  rw [resolveOverflow_eq, advanceTima_eq, ofNat_toNat_add s.timer.div]
  rfl

end TimerLaws

/-- Settles O47: the advance in closed form, with its period as the speed code's. -/
theorem timerAdvance_spec : Obligations.TimerAdvance := by
  unfold Obligations.TimerAdvance
  intro s n
  rw [timerAdvance_closed, Timer.ticks, timaPeriod_eq]
  exact ⟨rfl, rfl, rfl, rfl, rfl, rfl, rfl, rfl, rfl⟩

/-- Settles O48: each address is that of one register, which a write stores to and a read returns. -/
theorem timerRegisters : Obligations.TimerRegisters := by
  unfold Obligations.TimerRegisters
  exact fun s v => ⟨rfl, rfl, rfl, rfl, rfl, rfl, rfl, rfl⟩

end Sys2Proof.Machine

namespace Sys2Proof.Machine

/-! ## The joypad (R530, R531) -/

section JoypadLaws

/-- The four lines of P1 as the selected groups drive them (R530). -/
def Joypad.lines (j : Joypad) : BitVec 4 :=
  0xF &&& (if j.sel.getLsbD 0 then 0xF else ~~~(Byte.field j.buttons 0 4)) &&&
    (if j.sel.getLsbD 1 then 0xF else ~~~(Byte.field j.buttons 4 4))

theorem joypadRead_eq (j : Joypad) : j.read = (0b11 : BitVec 2) ++ j.sel ++ j.lines := rfl

theorem joypadRead_high (j : Joypad) : j.read.getLsbD 7 = true ∧ j.read.getLsbD 6 = true := by
  simp only [joypadRead_eq, BitVec.getLsbD_append]
  exact ⟨rfl, rfl⟩

theorem joypadRead_select (j : Joypad) : j.read.getLsbD 5 = j.sel.getLsbD 1 ∧ j.read.getLsbD 4 = j.sel.getLsbD 0 := by
  simp only [joypadRead_eq, BitVec.getLsbD_append]
  exact ⟨rfl, rfl⟩

/-- A group that is not selected leaves a line at 1; a selected one pulls it to 0 for a button held. -/
theorem getLsbD_group (selected : Bool) (buttons : Byte) (lo : Nat) {k : Nat} (hk : k < 4) :
    (if selected = true then (0xF : BitVec 4) else ~~~(Byte.field buttons lo 4)).getLsbD k =
      (selected || !buttons.getLsbD (lo + k)) := by
  cases selected with
  | true => exact (BitVec.getLsbD_allOnes (v := 4)).trans (decide_eq_true hk)
  | false => simp [Byte.field, hk]

theorem joypadRead_line (j : Joypad) {k : Nat} (hk : k < 4) :
    j.read.getLsbD k = false ↔
      j.sel.getLsbD 0 = false ∧ j.buttons.getLsbD k = true ∨ j.sel.getLsbD 1 = false ∧ j.buttons.getLsbD (k + 4) = true := by
  have line : j.read.getLsbD k = j.lines.getLsbD k := by rw [joypadRead_eq, BitVec.getLsbD_append, if_pos hk]
  have ones : (0xF : BitVec 4).getLsbD k = true := getLsbD_group true 0 0 hk
  rw [line, Joypad.lines, BitVec.getLsbD_and, BitVec.getLsbD_and, ones, getLsbD_group _ _ _ hk, getLsbD_group _ _ _ hk,
    Nat.zero_add, Nat.add_comm 4 k, Bool.true_and, Bool.and_eq_false_iff, Bool.or_eq_false_iff, Bool.or_eq_false_iff,
    Bool.not_eq_false', Bool.not_eq_false']

/-- A write of P1 stores bits 4 and 5 as the select bits (R530). -/
theorem joypadWrite_sel (j : Joypad) (v : Byte) :
    (j.write v).sel.getLsbD 0 = v.getLsbD 4 ∧ (j.write v).sel.getLsbD 1 = v.getLsbD 5 := by
  simp [Joypad.write, Byte.field]

/-- The request condition of R531: some button of the new mask was not held. -/
theorem pressed_ne_zero_iff (mask held : Byte) :
    (mask &&& ~~~held != 0) = true ↔ ∃ k, mask.getLsbD k = true ∧ held.getLsbD k = false := by
  refine (bne_iff_ne.trans BitVec.zero_iff_eq_false.not).trans (not_forall.trans (exists_congr fun k => ?_))
  rw [Bool.not_eq_false, BitVec.getLsbD_and, BitVec.getLsbD_not, Bool.and_eq_true]
  exact and_congr_right fun pressed => by simp [BitVec.lt_of_getLsbD pressed]

theorem pollButtons_of_mask {s : State} {mask : Byte} {rest : List Byte} (h : s.buttonsIn = mask :: rest) :
    pollButtons s = reqIf (mask &&& ~~~s.joypad.buttons != 0) 4
      { s with buttonsIn := rest, joypad := { s.joypad with buttons := mask } } := by
  unfold pollButtons
  rw [h]
  rfl

theorem reqIf_regIF (b : Bool) {i : Nat} (hi : i < 8) (s : State) (k : Nat) :
    (reqIf b i s).regIF.getLsbD k = true ↔ s.regIF.getLsbD k = true ∨ k = i ∧ b = true := by
  cases b with
  | false => simp [reqIf]
  | true =>
    change (Byte.setBit s.regIF i).getLsbD k = true ↔ _
    rw [getLsbD_setBit _ hi]
    by_cases h : k = i <;> simp [h]

end JoypadLaws

/-- Settles O49: P1 reads its select bits and its lines as written, and a new mask is one conditional request. -/
theorem joypadLinesAndRequests : Obligations.JoypadLinesAndRequests := by
  unfold Obligations.JoypadLinesAndRequests
  refine ⟨fun s v k hk => ?_, fun s mask rest h => ?_⟩
  · change let p1 := (s.joypad.write v).read; _
    obtain ⟨high7, high6⟩ := joypadRead_high (s.joypad.write v)
    obtain ⟨select5, select4⟩ := joypadRead_select (s.joypad.write v)
    obtain ⟨sel0, sel1⟩ := joypadWrite_sel s.joypad v
    refine ⟨high7, high6, select5.trans sel1, select4.trans sel0, ?_⟩
    rw [← sel0, ← sel1]
    exact joypadRead_line (s.joypad.write v) hk
  · rw [pollButtons_of_mask h]
    refine ⟨?_, fun j => ?_⟩
    · obtain ⟨f, hf⟩ := reqIf_eq (mask &&& ~~~s.joypad.buttons != 0) 4
        { s with buttonsIn := rest, joypad := { s.joypad with buttons := mask } }
      rw [hf]
    · rw [reqIf_regIF _ (by decide), pressed_ne_zero_iff]

end Sys2Proof.Machine

namespace Sys2Proof.Machine

/-! ## Interrupts and the halted CPU (R450, R461-R463, R480, R481, R486) -/

section Wake

variable (s : State)

theorem wakeFromHalt_of_noRequest (h : s.pending = 0) : wakeFromHalt s = s :=
  if_neg fun due : s.halted = true ∧ s.pending ≠ 0 => due.2 h

/-- A halted CPU with a request due wakes; only with IME = 0 in the mode `source` does that set `halt_bug` (R480, R486). -/
theorem wakeFromHalt_of_request (hh : s.halted = true) (h : s.pending ≠ 0) :
    wakeFromHalt s = { s with
      halted := false
      haltBug := s.haltBug || (s.params.haltBugMode == .source && !s.ime) } := if_pos ⟨hh, h⟩

/-- With IME = 1 the wake clears `halted` and nothing else, whether or not the CPU was halted. -/
theorem wakeFromHalt_of_interrupt (ime : s.ime = true) (h : s.pending ≠ 0) : wakeFromHalt s = { s with halted := false } := by
  cases hh : s.halted with
  | true => rw [wakeFromHalt_of_request s hh h]; simp [ime]
  | false => rw [wakeFromHalt_of_awake hh, ← hh]

@[simp] theorem memRead_wakeFromHalt (a : Word) : memRead (wakeFromHalt s) a = memRead s a := by
  unfold wakeFromHalt
  split
  · exact memRead_congr s ..
  · rfl

@[simp] theorem wakeFromHalt_regs : (wakeFromHalt s).regs = s.regs := by
  unfold wakeFromHalt
  split <;> rfl

theorem wakeFromHalt_ime : (wakeFromHalt s).ime = s.ime := by
  unfold wakeFromHalt
  split <;> rfl

end Wake

section Step

variable {s : State}

/-- A legal opcode decodes, so the step runs an instruction (R162, R450). -/
theorem cpuStep_of_legal (h : FetchesLegal s) : ∃ i, cpuStep (beginStep s) = runInstr i (awake s) := by
  obtain ⟨⟨-, notStopped⟩, legal⟩ := h
  have decodes (b1 b2 : Byte) : ∃ i rest, decode [memRead (awake s) (awake s).regs.pc, b1, b2] = .ok i rest := by
    obtain ⟨i, rest, h, -⟩ := (elevenOpcodesHaveNoDescriptor _ b1 b2).2 legal
    exact ⟨i, rest, h⟩
  have fetched : ∃ i rest, decode (instrBytes (awake s)) = .ok i rest := by
    unfold instrBytes
    simp only
    split <;> exact decodes _ _
  obtain ⟨i, rest, h⟩ := fetched
  exact ⟨i, cpuStep_of_decode notStopped h⟩

/-- A CPU step that records no fault is followed by the devices' advance by its cycles (R140). -/
theorem step_of_cpuStep_running {t : State} (running : s.fault = none) (cpu : cpuStep (beginStep s) = .next t)
    (kept : t.fixed = (awake s).fixed) : step s = .next (advanceDevices t.cycles t) := by
  have fault : t.fault = none := (fault_eq_of_fixed_eq (kept.trans (beginStep_fixed s))).trans running
  rw [step_of_cpuStep running cpu, finishStep_of_running fault]

theorem runInstr_of_halted {i : Instr} (hh : s.halted = true) (h : s.pending = 0) : runInstr i s = .next (idle s) := by
  unfold runInstr
  simp only [wakeFromHalt_of_noRequest s h, hh, if_true]

theorem runInstr_of_interrupt {i : Instr} (ime : s.ime = true) (h : s.pending ≠ 0) :
    runInstr i s = .next (dispatchInterrupt { s with halted := false }) := by
  unfold runInstr
  simp only [wakeFromHalt_of_interrupt s ime h]
  exact (if_neg Bool.false_ne_true).trans (if_pos (And.intro ime h))

/-- With IME = 0 a woken CPU executes the instruction as an awake one does. -/
theorem runInstr_of_woken {i : Instr} {t : State} (woken : (wakeFromHalt s).halted = false) (ime : s.ime = false)
    (h : exec i (wakeFromHalt s) = .next t) : runInstr i s = .next (endOfStep t) := by
  have noInterrupt : ¬ ((wakeFromHalt s).ime = true ∧ (wakeFromHalt s).pending ≠ 0) := fun due =>
    Bool.false_ne_true (((wakeFromHalt_ime s).trans ime).symm.trans due.1)
  rw [← runInstr_of_awake woken noInterrupt h]
  unfold runInstr
  rw [wakeFromHalt_of_awake woken]

end Step

/-! ### The dispatch (R461-R463) -/

/-- The mask of R461 leaves the five sources. -/
theorem source_lt_five {p : Byte} {k : Nat} (h : (p &&& 0x1F).getLsbD k = true) : k < 5 := by
  rw [BitVec.getLsbD_and, Bool.and_eq_true] at h
  have mask : ∀ k < 8, (0x1F : Byte).getLsbD k = true → k < 5 := by decide
  exact mask k (BitVec.lt_of_getLsbD h.2) h.2

/-- The sources are tried from the lowest one up (R463). -/
theorem lowestPending_eq {p : Byte} {k : Nat} (hk : k < 5) (raised : p.getLsbD k = true)
    (lowest : ∀ j, j < k → p.getLsbD j = false) : lowestPending p = k := by
  unfold lowestPending Byte.bit
  interval_cases k <;> simp (disch := decide) only [raised, lowest, Bool.false_eq_true, if_true, if_false]

theorem interruptVector_eq (k : Nat) : interruptVector k = BitVec.ofNat 16 (0x40 + 8 * k) := by
  rw [BitVec.ofNat_add, BitVec.ofNat_mul]
  rfl

/-- A push writes the memory system of `m`, whatever stands above it. -/
theorem push16_underCpu (c m : State) (v : Word) :
    push16 v (c.underCpu m) =
      (c.underCpu (memWrite (c.regs.sp - 2) v.lo (memWrite (c.regs.sp - 2 + 1) v.hi m))).setSp (c.regs.sp - 2) := by
  rw [push16_eq, memWrite_underCpu, memWrite_underCpu]
  rfl

/-- The state after the two writes of a dispatch out of `u` (R462): the address of the instruction not executed, high byte first. -/
def dispatchPushed (u : State) : State :=
  let ret := u.regs.pc - u.haltBugBytes
  memWrite (u.regs.sp - 2) ret.lo (memWrite (u.regs.sp - 2 + 1) ret.hi u)

/-- The writes change no CPU state. -/
theorem dispatchPushed_eq (u : State) : dispatchPushed u = u.underCpu (dispatchPushed u) := by
  unfold dispatchPushed
  simp only
  rw [memWrite_eq, memWrite_eq (u.regs.sp - 2 + 1)]
  rfl

/-- What a dispatch does after its push (R462): the request bit of source `k` is cleared, and PC goes to its vector. -/
def enterVector (k : Nat) (t : State) : State :=
  { State.setPc { t with regIF := Byte.clearBit t.regIF k } (interruptVector k) with cycles := 12 }

/-- The state of a dispatch of source `k` out of `u`: its two writes under the new control state (R462). -/
def dispatched (u : State) (k : Nat) : State :=
  enterVector k { dispatchPushed u with
    regs := { u.regs with sp := u.regs.sp - 2 }, ime := false, eiDelay := 0, haltBug := false, halted := false }

theorem dispatchInterrupt_eq (u : State) :
    dispatchInterrupt { u with halted := false } = dispatched u (lowestPending u.pending) := by
  unfold dispatched
  rw [dispatchPushed_eq]
  exact congrArg (enterVector (lowestPending u.pending))
    (push16_underCpu { u with halted := false, ime := false, eiDelay := 0, haltBug := false } u _)

theorem dispatched_regsKept (u : State) (k : Nat) : RegsKept [] u (dispatched u k) := fun r _ => by cases r <;> rfl

/-- A dispatch changes nothing else that the two writes left. -/
theorem dispatched_frame (u : State) (k : Nat) :
    dispatched u k = { dispatchPushed u with
      regs := (dispatched u k).regs, ime := false, eiDelay := 0, haltBug := false, halted := false, cycles := 12,
      regIF := (dispatched u k).regIF } := rfl

theorem dispatched_regIF (u : State) {k : Nat} (hk : k < 8) (j : Nat) :
    (dispatched u k).regIF.getLsbD j = ((dispatchPushed u).regIF.getLsbD j && j != k) := by
  refine (getLsbD_clearBit _ hk j).trans ?_
  by_cases same : j = k <;> simp [same]

/-- Settles O39: the step is the dispatch of the woken CPU, and the source it takes is the lowest one pending. -/
theorem interruptDispatch : Obligations.InterruptDispatch := by
  unfold Obligations.InterruptDispatch
  intro s k legal u pending ime raised lowest
  obtain ⟨i, cpu⟩ := cpuStep_of_legal legal
  have below : k < 5 := source_lt_five raised
  have chosen : lowestPending u.pending = k := lowestPending_eq below raised lowest
  have request : u.pending ≠ 0 := fun none => by
    have clear : u.pending.getLsbD k = false := by rw [none]; exact BitVec.getLsbD_zero
    exact Bool.false_ne_true (clear.symm.trans raised)
  have taken : cpuStep (beginStep s) = .next (dispatched u k) := by
    rw [cpu, runInstr_of_interrupt ime request, dispatchInterrupt_eq, chosen]
  have kept : (dispatched u k).fixed = u.fixed := by
    rw [← chosen, ← dispatchInterrupt_eq]
    exact dispatchInterrupt_fixed _
  exact ⟨dispatched u k, step_of_cpuStep_running legal.1.1 taken kept, interruptVector_eq k, rfl, rfl, rfl, rfl, rfl, rfl,
    dispatched_regsKept u k, rfl, dispatched_frame u k, dispatched_regIF u (by omega)⟩

/-! ### The wake (R480, R481, R486) -/

section Fetch

variable (s : State)

/-- An operand byte is read after the wake, which moves it one address down where it sets `halt_bug` (R485; log 10). -/
theorem fetchByte_wakeFromHalt (k : Nat) :
    fetchByte (wakeFromHalt s) k =
      memRead s (s.regs.pc + BitVec.ofNat 16 k - if (wakeFromHalt s).haltBug = true then 1 else 0) := by
  unfold fetchByte
  rw [memRead_wakeFromHalt, wakeFromHalt_regs]
  rfl

/-- A CB instruction is decoded from its first two bytes. -/
theorem decode_cb {b c d : Byte} {i : Instr} {rest : List Byte} (h : decode [0xCB, b, c] = .ok i rest) :
    ∃ rest', decode [0xCB, b, d] = .ok i rest' := by
  cases h
  exact ⟨_, rfl⟩

variable {s}

/-- Where the wake sets `halt_bug` the fetch reads the opcode again as the first operand byte; a CB row's second byte was read
before the wake (R485, R486; log 10). -/
theorem decode_instrBytes_of_wake {i : Instr} {rest : List Byte} {bug : Prop} [Decidable bug] (noBug : s.haltBug = false)
    (woken : (wakeFromHalt s).haltBug = decide bug)
    (h : decode (if bug ∧ memRead s s.regs.pc ≠ 0xCB then
        [memRead s s.regs.pc, memRead s s.regs.pc, memRead s (s.regs.pc + 1)] else bytesAtPc s) = .ok i rest) :
    ∃ rest', decode (instrBytes s) = .ok i rest' := by
  unfold instrBytes
  simp only [fetchByte_wakeFromHalt, fetchByte_of_noHaltBug noBug, woken]
  by_cases cb : memRead s s.regs.pc = 0xCB
  · rw [if_neg fun both => both.2 cb, bytesAtPc, cb] at h
    rw [if_pos cb, cb]
    exact decode_cb h
  · rw [if_neg cb]
    refine ⟨rest, ?_⟩
    by_cases hb : bug
    · rw [if_pos ⟨hb, cb⟩] at h
      have second : s.regs.pc + 2#16 - 1#16 = s.regs.pc + 1#16 := by bv_omega
      simpa [hb, second] using h
    · rw [if_neg fun both => hb both.1] at h
      simpa [hb, bytesAtPc] using h

end Fetch

/-- Settles O40: with nothing pending the CPU stays halted; else the wake decides `halt_bug`, and the fetched instruction runs under it
in the same step. -/
theorem haltIdlesAndWakes : Obligations.HaltIdlesAndWakes := by
  unfold Obligations.HaltIdlesAndWakes
  intro s legal halted noBug u bug op
  obtain ⟨running, notStopped⟩ := legal.1
  refine ⟨fun none => ?_, fun request ime i rest decoded => ?_⟩
  · obtain ⟨i, cpu⟩ := cpuStep_of_legal legal
    exact step_of_cpuStep_running running (cpu.trans (runInstr_of_halted halted none)) rfl
  · have woken : wakeFromHalt u = { u with halted := false, haltBug := decide bug } := by
      rw [wakeFromHalt_of_request u halted request, noBug, ime, Bool.false_or, Bool.not_false, Bool.and_true]
      rfl
    obtain ⟨rest', fetched⟩ := decode_instrBytes_of_wake noBug (congrArg State.haltBug woken) decoded
    obtain ⟨t, ht, kept⟩ := exec_fixed (wakeFromHalt u) i
    have cpu : cpuStep (beginStep s) = .next (endOfStep t) :=
      (cpuStep_of_decode notStopped fetched).trans (runInstr_of_woken (congrArg State.halted woken) ime ht)
    have fixed : (endOfStep t).fixed = u.fixed := (endOfStep_fixed t).trans (kept.trans (wakeFromHalt_fixed u))
    rw [← woken]
    refine ⟨t, ht, ?_⟩
    rw [step_of_cpuStep_running running cpu fixed, endOfStep_cycles]

end Sys2Proof.Machine

namespace Sys2Proof.Machine

/-! ## The background part of a line (R570)

Both bitplane reads fall into VRAM at an address that the decimal arithmetic of the statement gives, and the loop's turns fill the
line's colour indexes and its pixels one after another. -/

/-- The cells of `m` with `n` values stored one after another from index `base` on. -/
def Cells.fill {w : Nat} (m : Cells w) (base n : Nat) (value : Nat → BitVec w) : Cells w :=
  (List.range n).foldl (fun m i => Cells.set m (base + i) (value i)) m

theorem Cells.fill_succ {w : Nat} (m : Cells w) (base n : Nat) (value : Nat → BitVec w) :
    Cells.fill m base (n + 1) value = Cells.set (Cells.fill m base n value) (base + n) (value n) := by
  simp [Cells.fill, List.range_succ]

theorem Cells.get_fill {w : Nat} (m : Cells w) (base n : Nat) (value : Nat → BitVec w) (k : Nat) :
    Cells.get (Cells.fill m base n value) k = if base ≤ k ∧ k < base + n then value (k - base) else Cells.get m k := by
  induction n with
  | zero => rw [if_neg (by omega)]; rfl
  | succ n ih =>
    rw [Cells.fill_succ, Cells.get_set, ih]
    by_cases last : k = base + n
    · rw [if_pos last, if_pos (by omega), last, Nat.add_sub_cancel_left]
    · rw [if_neg last]
      exact if_congr (by omega) rfl rfl

theorem paletteShade_eq_shadeOf (palette : Byte) (c : BitVec 2) : paletteShade palette c = shadeOf palette c := by
  unfold paletteShade shadeOf Byte.field BitVec.extractLsb'
  rw [Nat.shiftRight_eq_div_pow, Nat.pow_mul]

theorem vramByte_eq (p : Ppu) {a : Word} {k : Nat} (h : a.toNat = 0x8000 + k) : p.vramByte a = Cells.get p.vram k := by
  unfold Ppu.vramByte
  rw [show (a - 0x8000).toNat = k by bv_omega]

/-- The two bitplane bytes of a tile row lie in VRAM next to each other. -/
theorem planeColour_eq (p : Ppu) {row : Word} {k : Nat} (h : row.toNat = 0x8000 + k) (hk : k + 1 < 0x8000) (b : Nat) :
    planeColour p row b =
      BitVec.ofBool ((Cells.get p.vram (k + 1)).getLsbD b) ++ BitVec.ofBool ((Cells.get p.vram k).getLsbD b) := by
  unfold planeColour Byte.bit
  rw [vramByte_eq p h, vramByte_eq p (a := row + 1) (k := k + 1) (by bv_omega)]

/-- The offset of the background tile map in VRAM (R551). -/
def Ppu.mapOffset (p : Ppu) : Nat := if p.lcdc.getLsbD 3 = true then 0x1C00 else 0x1800

theorem toNat_mapBase (p : Ppu) : p.mapBase.toNat = 0x8000 + p.mapOffset ∧ p.mapOffset ≤ 0x1C00 := by
  unfold Ppu.mapBase Ppu.mapOffset Byte.bit
  split <;> decide

theorem toNat_zext (v : Byte) : (Byte.zext v).toNat = v.toNat := by
  rw [Byte.zext, BitVec.toNat_setWidth]
  omega

/-- The offset of tile `idx` in VRAM: unsigned from its start, or signed from 0x1000 (R551). -/
def Ppu.tileOffset (p : Ppu) (idx : Byte) : Int :=
  if p.lcdc.getLsbD 4 = true then idx.toNat * 16 else 0x1000 + idx.toInt * 16

/-- Every background tile lies in the first 0x1800 bytes of VRAM. -/
theorem toNat_tileBase (p : Ppu) (idx : Byte) :
    (p.tileBase idx).toNat = 0x8000 + (p.tileOffset idx).toNat ∧ (p.tileOffset idx).toNat ≤ 0x17F0 := by
  unfold Ppu.tileBase Ppu.tileOffset Byte.bit
  split
  · have := idx.isLt
    have zext := toNat_zext idx
    constructor
    · bv_omega
    · omega
  · have sext : ∀ v : Byte, (0x9000 + Byte.sext v * 16).toNat = 0x8000 + (0x1000 + v.toInt * 16).toNat ∧
        (0x1000 + v.toInt * 16).toNat ≤ 0x17F0 := by decide
    exact sext idx

/-- Entry `k` of the tile map. -/
theorem vramByte_mapBase_add (p : Ppu) {k : Nat} (hk : k < 1024) :
    p.vramByte (p.mapBase + BitVec.ofNat 16 k) = Cells.get p.vram (p.mapOffset + k) := by
  obtain ⟨map, bound⟩ := toNat_mapBase p
  refine vramByte_eq p ?_
  rw [BitVec.toNat_add, map, BitVec.toNat_ofNat]
  omega

/-- The row of a background tile whose bytes are `k` and `k + 1`. -/
theorem planeColour_tileBase_add (p : Ppu) (idx : Byte) {k : Nat} (hk : k < 16) (b : Nat) :
    planeColour p (p.tileBase idx + BitVec.ofNat 16 k) b =
      BitVec.ofBool ((Cells.get p.vram ((p.tileOffset idx).toNat + k + 1)).getLsbD b) ++
        BitVec.ofBool ((Cells.get p.vram ((p.tileOffset idx).toNat + k)).getLsbD b) := by
  obtain ⟨tile, bound⟩ := toNat_tileBase p idx
  refine planeColour_eq p ?_ (by omega) b
  rw [BitVec.toNat_add, tile, BitVec.toNat_ofNat]
  omega

/-- R570's colour index by the statement's arithmetic: line and pixel are bytes, so the scrolled ones are remainders of 256. -/
theorem bgColour_eq (p : Ppu) (ly : Byte) (px : Nat) : p.bgColour ly px = backgroundColour p ly.toNat px := by
  have y : (ly + p.scy).toNat = (ly.toNat + p.scy.toNat) % 256 := BitVec.toNat_add ..
  have x : (BitVec.ofNat 8 px + p.scx).toNat = (px + p.scx.toNat) % 256 := by
    rw [BitVec.toNat_add, BitVec.toNat_ofNat, Nat.mod_add_mod]
  unfold Ppu.bgColour
  dsimp only
  rw [y, x, vramByte_mapBase_add p (by omega), ← Nat.add_assoc, planeColour_tileBase_add p _ (by omega)]
  rfl

/-- The first `n` turns of R570's loop: each stores the pixel's colour index and its shade. -/
theorem foldl_renderBgPixel (ly : Byte) (p : Ppu) (n : Nat) :
    (List.range n).foldl (renderBgPixel ly) p = { p with
      bgIndex := Cells.fill p.bgIndex 0 n (backgroundColour p ly.toNat)
      fb := Cells.fill p.fb (160 * ly.toNat) n fun px => shadeOf p.bgp (backgroundColour p ly.toNat px) } := by
  induction n with
  | zero => rfl
  | succ n ih =>
    rw [List.range_succ, List.foldl_append, ih, Cells.fill_succ, Cells.fill_succ, Nat.zero_add, ← paletteShade_eq_shadeOf,
      ← bgColour_eq]
    rfl

theorem renderBackground_eq (ly : Byte) (p : Ppu) :
    renderBackground ly p = { p with
      bgIndex := Cells.fill p.bgIndex 0 160 (backgroundColour p ly.toNat)
      fb := Cells.fill p.fb (160 * ly.toNat) 160 fun px => shadeOf p.bgp (backgroundColour p ly.toNat px) } :=
  foldl_renderBgPixel ly p 160

theorem get_bgIndex_renderBackground (ly : Byte) (p : Ppu) {px : Nat} (hpx : px < 160) :
    Cells.get (renderBackground ly p).bgIndex px = backgroundColour p ly.toNat px := by
  rw [renderBackground_eq, Cells.get_fill, if_pos (by omega), Nat.sub_zero]

theorem get_fb_renderBackground (ly : Byte) (p : Ppu) {px : Nat} (hpx : px < 160) :
    Cells.get (renderBackground ly p).fb (160 * ly.toNat + px) = shadeOf p.bgp (backgroundColour p ly.toNat px) := by
  rw [renderBackground_eq, Cells.get_fill, if_pos (by omega), Nat.add_sub_cancel_left]

/-- Settles O51: the background part in closed form, read at a pixel of the line and outside it. -/
theorem backgroundLineIsRendered : Obligations.BackgroundLineIsRendered := by
  unfold Obligations.BackgroundLineIsRendered
  intro p ly _
  refine ⟨fun px hpx => ⟨get_bgIndex_renderBackground ly p hpx, get_fb_renderBackground ly p hpx⟩, fun k outside => ?_, ?_⟩
  · rw [renderBackground_eq, Cells.get_fill, if_neg (by omega)]
  · rw [renderBackground_eq]

end Sys2Proof.Machine

namespace Sys2Proof.Machine

/-! ## The sprite part of a line (R575)

Both loops of R575 are folds whose turns leave a given pixel alone or give it a shade, so the pixel ends with the shade of the last
turn that gives it one. -/

/-- `r` is `p` with a frame buffer whose cell `k` has the shade `drawn`, or its old one where there is none. -/
def Paints (k : Nat) (p r : Ppu) (drawn : Option (BitVec 2)) : Prop :=
  r = { p with fb := r.fb } ∧ Cells.get r.fb k = drawn.getD (Cells.get p.fb k)

theorem Paints.refl (k : Nat) (p : Ppu) : Paints k p p none := ⟨rfl, rfl⟩

/-- What is drawn later covers what was drawn before. -/
theorem Paints.trans {k : Nat} {p q r : Ppu} {first later : Option (BitVec 2)} (h : Paints k p q first)
    (g : Paints k q r later) : Paints k p r (later.or first) := by
  obtain ⟨hq, hget⟩ := h
  obtain ⟨hr, gget⟩ := g
  refine ⟨?_, ?_⟩
  · rw [hr, hq]
  · rw [gget, hget]
    cases later <;> rfl

/-- The pixel `dst` of a line given a shade, or left alone, as seen at the pixel `px`. -/
theorem paints_setPixel (p : Ppu) (ly : Byte) (px dst : Nat) (drawn : Option (BitVec 2)) :
    Paints (160 * ly.toNat + px) p (drawn.elim p (p.setPixel ly dst)) (if dst = px then drawn else none) := by
  cases drawn with
  | none => rw [ite_self]; exact .refl _ p
  | some shade =>
    refine ⟨rfl, ?_⟩
    change Cells.get (Cells.set p.fb (160 * ly.toNat + dst) shade) _ = _
    rw [Cells.get_set]
    by_cases h : dst = px
    · rw [if_pos (by omega), if_pos h]; rfl
    · rw [if_neg (by omega), if_neg h]; rfl

/-- A loop whose turns paint cell `k`, whatever frame buffer they find, leaves it with the shade of the last turn that draws it. -/
theorem paints_foldl {α : Type} {k : Nat} {f : Ppu → α → Ppu} {draw : α → Option (BitVec 2)} (p : Ppu) (l : List α)
    (turn : ∀ x ∈ l, ∀ fb, Paints k { p with fb := fb } (f { p with fb := fb } x) (draw x)) :
    Paints k p (l.foldl f p) (l.reverse.findSome? draw) := by
  induction l using List.reverseRecOn with
  | nil => exact .refl k p
  | append_singleton l x ih =>
    have before := ih fun y hy => turn y (by simp [hy])
    have last := turn x (by simp) (l.foldl f p).fb
    rw [← before.1] at last
    rw [List.foldl_append, List.reverse_append]
    have both := before.trans last
    rw [List.reverse_singleton, List.singleton_append, List.findSome?_cons]
    cases hx : draw x <;> simpa [hx] using both

/-- The tile row that line `ly` shows of a sprite whose box it meets, in the numbers of OAM (R575). -/
theorem spriteRow_eq (q : Params) (p : Ppu) (ly : Byte) (n : Nat) :
    let top := (p.oamByte n 0).toNat
    let row := ly.toNat + 16 - top
    spriteRow q p ly n =
      if top ≤ ly.toNat + 16 ∧ ly.toNat + 16 < top + 8 then
        some (if q.objYFlip = true ∧ (p.oamByte n 3).getLsbD 6 = true then 7 - row else row)
      else none := by
  unfold spriteRow Byte.bit
  simp only [Bool.and_eq_true]
  have row : ((ly.toNat : Int) - ((p.oamByte n 0).toNat - 16)).toNat = ly.toNat + 16 - (p.oamByte n 0).toNat := by omega
  rw [row]
  exact if_congr (by omega) rfl rfl

/-- The shade that column `col` of sprite `n` gives pixel `px` where that column lies, `row` being the tile row shown (R575). -/
def columnShade (q : Params) (p : Ppu) (n row px col : Nat) : Option (BitVec 2) :=
  let attr := p.oamByte n 3
  let c := planeColour p (0x8000 + Byte.zext (p.oamByte n 2) * 16 + BitVec.ofNat 16 (row * 2))
    (if Byte.bit attr 5 then col else 7 - col)
  if c = 0 ∨ spriteHidden q p attr px = true then none else some (paletteShade (spritePalette q p attr) c)

theorem renderSpritePixel_eq (q : Params) (p : Ppu) (ly : Byte) (n row col : Nat) :
    let px : Int := (p.oamByte n 1).toNat - 8 + col
    renderSpritePixel q ly n row p col =
      if px < 0 ∨ 159 < px then p else (columnShade q p n row px.toNat col).elim p (p.setPixel ly px.toNat) := by
  intro px
  unfold renderSpritePixel columnShade
  extract_lets attr _ tileRow c
  refine if_congr Iff.rfl rfl ?_
  by_cases transparent : c = 0
  · rw [if_pos transparent, if_pos (.inl transparent)]; rfl
  · by_cases hidden : spriteHidden q p attr px.toNat = true
    · rw [if_neg transparent, if_pos hidden, if_pos (.inr hidden)]; rfl
    · rw [if_neg transparent, if_neg hidden, if_neg (not_or_intro transparent hidden)]; rfl

theorem paints_renderSpritePixel (q : Params) (p : Ppu) (ly : Byte) (n row col : Nat) {px : Nat} (hpx : px < 160) :
    Paints (160 * ly.toNat + px) p (renderSpritePixel q ly n row p col)
      (if (p.oamByte n 1).toNat + col = px + 8 then columnShade q p n row px col else none) := by
  rw [renderSpritePixel_eq]
  generalize dst_eq : ((p.oamByte n 1).toNat : Int) - 8 + col = dst
  split
  · rw [if_neg (by omega)]
    exact .refl _ p
  · have painted := paints_setPixel p ly px dst.toNat (columnShade q p n row dst.toNat col)
    by_cases here : (p.oamByte n 1).toNat + col = px + 8
    · have same : dst.toNat = px := by omega
      rw [if_pos here, same]
      rwa [if_pos same, same] at painted
    · rw [if_neg here]
      rwa [if_neg (by omega)] at painted

/-- A search for what meets a condition that only `a` can meet. -/
theorem findSome?_ite_unique {α : Type} (cond : Nat → Prop) [DecidablePred cond] {a : Nat} (unique : ∀ x, cond x → x = a)
    (found : Nat → Option α) (l : List Nat) :
    l.findSome? (fun x => if cond x then found x else none) = if a ∈ l ∧ cond a then found a else none := by
  induction l with
  | nil => simp
  | cons x l ih =>
    rw [List.findSome?_cons, ih]
    by_cases here : cond x
    · obtain rfl := unique x here
      rw [if_pos here, if_pos (c := x ∈ x :: l ∧ cond x) ⟨List.mem_cons_self, here⟩]
      cases e : found x with
      | none => exact ite_self _
      | some _ => rfl
    · have later : a ∈ x :: l ∧ cond a ↔ a ∈ l ∧ cond a :=
        and_congr_left fun holds => List.mem_cons.trans (or_iff_right fun e => here (e ▸ holds))
      rw [if_neg here]
      exact if_congr later.symm rfl rfl

/-- At most one of a sprite's eight columns lies at pixel `px`. -/
theorem findSome?_columns {α : Type} (left px : Nat) (shade : Nat → Option α) :
    (List.range 8).reverse.findSome? (fun col => if left + col = px + 8 then shade col else none) =
      if left ≤ px + 8 ∧ px + 8 < left + 8 then shade (px + 8 - left) else none := by
  rw [findSome?_ite_unique (fun col => left + col = px + 8) (a := px + 8 - left) (fun col h => by omega)]
  refine if_congr ?_ rfl rfl
  rw [List.mem_reverse, List.mem_range]
  omega

theorem toNat_spriteTileRow (tile : Byte) {row : Nat} (hrow : row < 8) :
    (0x8000 + Byte.zext tile * 16 + BitVec.ofNat 16 (row * 2) : Word).toNat = 0x8000 + (tile.toNat * 16 + row * 2) := by
  have bound := tile.isLt
  have zext := toNat_zext tile
  have offset : (BitVec.ofNat 16 (row * 2)).toNat = row * 2 := by
    rw [BitVec.toNat_ofNat]
    omega
  bv_omega

theorem spriteHidden_iff (q : Params) (p : Ppu) (attr : Byte) (px : Nat) :
    spriteHidden q p attr px = true ↔ attr.getLsbD 7 = true ∧
      (q.objBgPriorityMode = .docLiteral ∧ Cells.get p.bgIndex px = 0 ∨
        q.objBgPriorityMode = .dmg ∧ Cells.get p.bgIndex px ≠ 0) := by
  unfold spriteHidden Byte.bit
  rw [Bool.and_eq_true]
  refine and_congr_right fun _ => ?_
  cases q.objBgPriorityMode <;> simp

/-- A column's shade by the statement's arithmetic, `bg` being the background's colour index at the pixel. -/
theorem columnShade_eq (q : Params) (p : Ppu) (n px col : Nat) {row : Nat} (hrow : row < 8) {bg : BitVec 2}
    (hbg : Cells.get p.bgIndex px = bg) :
    columnShade q p n row px col =
      let attr := p.oamByte n 3
      let k := (p.oamByte n 2).toNat * 16 + row * 2
      let b := if attr.getLsbD 5 = true then col else 7 - col
      let c := BitVec.ofBool ((Cells.get p.vram (k + 1)).getLsbD b) ++ BitVec.ofBool ((Cells.get p.vram k).getLsbD b)
      if c = 0 ∨ attr.getLsbD 7 = true ∧ (q.objBgPriorityMode = .docLiteral ∧ bg = 0 ∨ q.objBgPriorityMode = .dmg ∧ bg ≠ 0)
      then none else some (shadeOf (spritePalette q p attr) c) := by
  have bound := (p.oamByte n 2).isLt
  unfold columnShade
  dsimp only
  rw [planeColour_eq p (toNat_spriteTileRow _ hrow) (by omega), paletteShade_eq_shadeOf]
  exact if_congr (or_congr_right (hbg ▸ spriteHidden_iff ..)) rfl rfl

/-- The statement's shade of a sprite is that of the column of its box that lies at the pixel. -/
theorem spriteShade_eq (q : Params) (p : Ppu) (ly : Byte) (px n : Nat)
    (bg : Cells.get p.bgIndex px = backgroundColour p ly.toNat px) :
    let left := (p.oamByte n 1).toNat
    spriteShade q p ly.toNat px n = (spriteRow q p ly n).bind fun row =>
      if left ≤ px + 8 ∧ px + 8 < left + 8 then columnShade q p n row px (px + 8 - left) else none := by
  rw [spriteRow_eq]
  intro left
  unfold spriteShade
  change (if (p.oamByte n 0).toNat ≤ _ ∧ _ < (p.oamByte n 0).toNat + 8 ∧ left ≤ px + 8 ∧ px + 8 < left + 8 then _ else none) = _
  by_cases rows : (p.oamByte n 0).toNat ≤ ly.toNat + 16 ∧ ly.toNat + 16 < (p.oamByte n 0).toNat + 8
  · rw [if_pos rows, Option.bind_some]
    refine if_congr (by rw [← and_assoc]; exact and_iff_right rows) ?_ rfl
    have row_lt : ly.toNat + 16 - (p.oamByte n 0).toNat < 8 := by omega
    refine (columnShade_eq q p n px _ ?_ bg).symm
    split
    · omega
    · exact row_lt
  · rw [if_neg rows, if_neg fun box => rows ⟨box.1, box.2.1⟩]
    rfl

theorem paints_renderSprite (q : Params) (p : Ppu) (ly : Byte) (n : Nat) {px : Nat} (hpx : px < 160)
    (bg : Cells.get p.bgIndex px = backgroundColour p ly.toNat px) :
    Paints (160 * ly.toNat + px) p (renderSprite q ly p n) (spriteShade q p ly.toNat px n) := by
  rw [spriteShade_eq q p ly px n bg]
  unfold renderSprite
  cases spriteRow q p ly n with
  | none => exact .refl _ p
  | some row =>
    rw [Option.bind_some, ← findSome?_columns (p.oamByte n 1).toNat px fun col => columnShade q p n row px col]
    exact paints_foldl p (List.range 8) fun col _ fb => paints_renderSpritePixel q { p with fb := fb } ly n row col hpx

/-- With the background's colour indexes in place, the sprite part gives a pixel the shade of the last sprite that draws it. -/
theorem paints_renderSprites (q : Params) (p : Ppu) (ly : Byte) {px : Nat} (hpx : px < 160)
    (bg : Cells.get p.bgIndex px = backgroundColour p ly.toNat px) :
    Paints (160 * ly.toNat + px) p (renderSprites q ly p) ((List.range 40).reverse.findSome? (spriteShade q p ly.toNat px)) :=
  paints_foldl p (List.range 40) fun n _ fb => paints_renderSprite q { p with fb := fb } ly n hpx bg

/-- A rendered line at one pixel: the sprites' shade over the background's. -/
theorem paints_renderLine (q : Params) (p : Ppu) (ly : Byte) {px : Nat} (hpx : px < 160) :
    Paints (160 * ly.toNat + px) (renderBackground ly p) (renderLine q ly p)
      (if p.lcdc.getLsbD 1 = true then (List.range 40).reverse.findSome? (spriteShade q p ly.toNat px) else none) := by
  have bg := get_bgIndex_renderBackground ly p hpx
  unfold renderLine
  rw [renderBackground_eq] at bg ⊢
  dsimp only
  unfold Byte.bit
  split
  · exact paints_renderSprites q _ ly hpx bg
  · exact .refl _ _

/-- Settles O52: the sprite part over the background part, read at one pixel. -/
theorem lastSpriteWins : Obligations.LastSpriteWins := by
  unfold Obligations.LastSpriteWins
  intro q p ly px _ hpx
  obtain ⟨_, pixel⟩ := paints_renderLine q p ly hpx
  rw [pixel, get_fb_renderBackground ly p hpx]

end Sys2Proof.Machine

namespace Sys2Proof.Machine

/-! ## The scanline state machine (R560, R565)

An advance is one state change followed by the LY compare. The change is the same for every mode but for the mode entered, LY, the
cycles carried over and what was drawn. -/

/-- Rendering changes the line's colour indexes and the frame buffer only, whatever the line: the law of any pixel carries the frame. -/
theorem renderLine_frame (q : Params) (ly : Byte) (p : Ppu) :
    renderLine q ly p = { p with bgIndex := (renderLine q ly p).bgIndex, fb := (renderLine q ly p).fb } := by
  obtain ⟨frame, _⟩ := paints_renderLine q p ly (px := 0) (by decide)
  rw [frame, renderBackground_eq]

/-- Whether STAT selects the LcdStat request of the mode entered; mode 3 has none (R553). -/
def modeSource (src : BitVec 4) : Option Mode → Bool
  | some .hblank => src.getLsbD 0
  | some .vblank => src.getLsbD 1
  | some .oamScan => src.getLsbD 2
  | some .transfer | none => false

theorem modeSource_eq (src : BitVec 4) (entered : Option Mode) :
    modeSource src entered = (entered == some .hblank && src.getLsbD 0 || entered == some .vblank && src.getLsbD 1 ||
      entered == some .oamScan && src.getLsbD 2) := by
  cases entered with
  | none => rfl
  | some m => cases m <;> simp [modeSource, beq_eq_decide]

/-- `s` in the mode `entered`, or in its own where that is `none`, with the given LY and clock and the cells of `drawn`; entering
vblank presents the frame. -/
def State.moved (s : State) (entered : Option Mode) (ly : Byte) (clock : Nat) (drawn : Ppu) : State :=
  { s with
    ppu := { s.ppu with
      mode := entered.getD s.ppu.mode, ly := ly, modeClock := clock, bgIndex := drawn.bgIndex, fb := drawn.fb }
    out := if entered = some .vblank then s.out ++ [.frame s.ppu.fb] else s.out }

/-- The same with the requests that entering the mode raises (R553, R560). -/
def State.enter (s : State) (entered : Option Mode) (ly : Byte) (clock : Nat) (drawn : Ppu) : State :=
  reqIf (modeSource s.ppu.statSrc entered) 1 (reqIf (entered == some .vblank) 0 (s.moved entered ly clock drawn))

/-- The mode that follows the current one; vblank's lines follow each other without an entry (R560). -/
def Ppu.entered (p : Ppu) : Option Mode :=
  match p.mode with
  | .oamScan => some .transfer
  | .transfer => some .hblank
  | .hblank => if p.ly + 1 = 144 then some .vblank else some .oamScan
  | .vblank => if p.ly + 1 = 154 then some .oamScan else none

/-- LY after the current mode (R560). -/
def Ppu.nextLy (p : Ppu) : Byte :=
  match p.mode with
  | .oamScan | .transfer => p.ly
  | .hblank => p.ly + 1
  | .vblank => if p.ly + 1 = 154 then 0 else p.ly + 1

/-- The cycles past the current mode's end (R560). -/
def Ppu.carry (p : Ppu) : Nat := p.modeClock - p.mode.cycles

/-- The cells that the end of the current mode leaves: that of mode 3 renders the line if LCDC[7] = 1 (R560). -/
def State.drawing (s : State) : Ppu :=
  if s.ppu.mode = .transfer ∧ s.ppu.lcdc.getLsbD 7 = true then renderLine s.params s.ppu.ly s.ppu else s.ppu

section Leaving

variable (s : State)

theorem drawing_of_not_transfer (h : s.ppu.mode ≠ .transfer) : s.drawing = s.ppu := if_neg fun both => h both.1

theorem enterOamScan_setLy (v : Byte) : enterOamScan (setLy v s) = s.enter (some .oamScan) v s.ppu.carry s.ppu := rfl

theorem enterVblank_setLy (v : Byte) : enterVblank (setLy v s) = s.enter (some .vblank) v s.ppu.carry s.ppu := by
  unfold State.enter enterVblank modeSource setLy enterMode
  cases s.ppu.statSrc.getLsbD 1 <;> rfl

variable {s}

theorem enterMode_vblank_setLy (v : Byte) (h : s.ppu.mode = .vblank) :
    enterMode .vblank (setLy v s) = s.enter none v s.ppu.carry s.ppu := by
  rw [← h]
  rfl

theorem enterHblank_renderCurrent (h : s.ppu.mode = .transfer) :
    enterHblank (renderCurrent s) = s.enter (some .hblank) s.ppu.ly s.ppu.carry s.drawing := by
  have frame := renderLine_frame s.params s.ppu.ly s.ppu
  unfold renderCurrent State.drawing Byte.bit
  by_cases on : s.ppu.lcdc.getLsbD 7 = true
  · rw [if_pos on, if_pos ⟨h, on⟩, frame]
    rfl
  · rw [if_neg on, if_neg fun both => on both.2]
    rfl

variable (s)

/-- The end of a mode, in one form for all four (R560). -/
theorem leaveMode_eq : leaveMode s = s.enter s.ppu.entered s.ppu.nextLy s.ppu.carry s.drawing := by
  unfold leaveMode Ppu.entered Ppu.nextLy
  cases h : s.ppu.mode with
  | oamScan =>
    rw [drawing_of_not_transfer s (by simp [h])]
    rfl
  | transfer => exact enterHblank_renderCurrent h
  | hblank =>
    rw [drawing_of_not_transfer s (by simp [h])]
    dsimp only
    split
    · exact enterVblank_setLy s _
    · exact enterOamScan_setLy s _
  | vblank =>
    rw [drawing_of_not_transfer s (by simp [h])]
    dsimp only
    split
    · exact enterOamScan_setLy s 0
    · exact enterMode_vblank_setLy _ h

/-- What is drawn does not depend on the clock. -/
theorem enter_modeClock (entered : Option Mode) (ly : Byte) (c clock : Nat) :
    let u := { s with ppu := { s.ppu with modeClock := c } }
    State.enter u entered ly clock u.drawing = s.enter entered ly clock s.drawing := by
  unfold State.drawing
  dsimp only
  rw [renderLine_modeClock]
  split <;> rfl

/-- An advance ends the mode whose cycles are over, then compares LY with LYC (R560). -/
theorem ppuAdvance_eq (n : Nat) :
    let clock := s.ppu.modeClock + n
    ppuAdvance n s = lycCheck (if s.ppu.mode.cycles ≤ clock then
      s.enter s.ppu.entered s.ppu.nextLy (clock - s.ppu.mode.cycles) s.drawing else s.enter none s.ppu.ly clock s.ppu) := by
  intro clock
  unfold ppuAdvance
  extract_lets _ u
  have ending : leaveMode u = s.enter s.ppu.entered s.ppu.nextLy (clock - s.ppu.mode.cycles) s.drawing :=
    (leaveMode_eq u).trans (enter_modeClock s _ _ clock _)
  rw [ending]
  rfl

end Leaving

/-- A request, bit by bit. -/
theorem reqIf_bits (b : Bool) {i : Nat} (hi : i < 8) (s : State) :
    ∃ f, reqIf b i s = { s with regIF := f } ∧ ∀ k, f.getLsbD k = (s.regIF.getLsbD k || (k == i && b)) := by
  obtain ⟨f, hf⟩ := reqIf_eq b i s
  refine ⟨f, hf, fun k => Bool.eq_iff_iff.mpr ?_⟩
  have bits := reqIf_regIF b hi s k
  rw [hf] at bits
  simpa using bits

/-- Whether the compare of LY with LYC requests LcdStat (R565). -/
def lycFires (s : State) : Bool :=
  s.ppu.ly == s.ppu.lyc && s.ppu.statSrc.getLsbD 3 && (s.params.lycMode == .level || !s.ppu.lycPrev)

theorem lycCheck_eq (s : State) :
    let eq := s.ppu.ly == s.ppu.lyc
    lycCheck s = reqIf (lycFires s) 1 { s with ppu := { s.ppu with coincidence := eq, lycPrev := eq } } := by
  unfold lycCheck lycFires
  cases s.params.lycMode <;> rfl

/-- The state that a mode's entry and the compare with LYC leave, with IF bit by bit. -/
theorem lycCheck_enter (s : State) (entered : Option Mode) (ly : Byte) (clock : Nat) (drawn : Ppu) :
    let u := s.moved entered ly clock drawn
    ∃ f, lycCheck (s.enter entered ly clock drawn) =
        { u with regIF := f, ppu := { u.ppu with coincidence := ly == s.ppu.lyc, lycPrev := ly == s.ppu.lyc } } ∧
      ∀ k, f.getLsbD k = (s.regIF.getLsbD k || (k == 0 && entered == some .vblank) ||
        (k == 1 && (lycFires u || modeSource s.ppu.statSrc entered))) := by
  intro u
  obtain ⟨f, hf, f_bits⟩ := reqIf_bits (entered == some .vblank) (i := 0) (by decide) u
  obtain ⟨g, hg, g_bits⟩ := reqIf_bits (modeSource s.ppu.statSrc entered) (i := 1) (by decide) { u with regIF := f }
  have entry : s.enter entered ly clock drawn = { u with regIF := g } := by
    unfold State.enter
    rw [hf, hg]
  rw [entry, lycCheck_eq]
  obtain ⟨i, hi, i_bits⟩ := reqIf_bits (lycFires u) (i := 1) (by decide)
    { u with regIF := g, ppu := { u.ppu with coincidence := ly == s.ppu.lyc, lycPrev := ly == s.ppu.lyc } }
  refine ⟨i, hi, fun k => ?_⟩
  rw [i_bits, g_bits, f_bits, Bool.or_comm (lycFires u), Bool.and_or_distrib_left, ← Bool.or_assoc]
  rfl

/-- Settles O50: the mode's end in one form for all modes, then the compare with LYC. -/
theorem pictureUnitTransitions : Obligations.PictureUnitTransitions := by
  unfold Obligations.PictureUnitTransitions
  intro s n
  extract_lets t clock threshold leaves ly1 entered ly lycFires
  have advance : t = lycCheck (s.enter entered ly (if leaves then clock - threshold else clock)
      (if leaves then s.drawing else s.ppu)) := by
    have threshold_eq : s.ppu.mode.cycles = threshold := rfl
    refine (ppuAdvance_eq s n).trans (congrArg lycCheck ?_)
    rw [threshold_eq]
    by_cases past : leaves
    · simp only [entered, ly, if_pos past]
      exact if_pos past
    · simp only [entered, ly, if_neg past]
      exact if_neg past
  obtain ⟨f, result, bits⟩ := lycCheck_enter s entered ly (if leaves then clock - threshold else clock)
    (if leaves then s.drawing else s.ppu)
  rw [advance, result]
  refine ⟨rfl, rfl, rfl, rfl, rfl, fun k => ?_, rfl, rfl, ?_, ?_, rfl⟩
  · rw [bits k, modeSource_eq, ← Bool.or_assoc, ← Bool.or_assoc]
    rfl
  · rintro ⟨past, drawing⟩
    have drawn : (if leaves then s.drawing else s.ppu) = renderLine s.params s.ppu.ly s.ppu :=
      (if_pos past).trans (if_pos drawing)
    rw [drawn]
    exact ⟨rfl, rfl⟩
  · intro none_drawn
    have kept : (if leaves then s.drawing else s.ppu) = s.ppu := by
      split
      · next past => exact if_neg fun drawing => none_drawn ⟨past, drawing⟩
      · rfl
    rw [kept]
    exact ⟨rfl, rfl⟩

end Sys2Proof.Machine

namespace Sys2Proof.Machine

/-! ## The invariant (10_state.md, 60_exceptions.md, 61_picture_unit.md, 62_sound_unit.md)

Laws/Invariant.lean keeps `SystemOk` through an instruction and through the devices' advance by at most 24 cycles. What is left
is the CPU's control state, which `exec_control` gives, and that no CPU step costs more than 24 cycles. -/

/-! ### The cost of an instruction (R170, R171) -/

theorem descriptor_le (x : Shape) : x.descriptor.base ≤ 24 ∧ x.descriptor.alternate ≤ 24 := by
  cases x with
  | alu op src => cases src <;> simp [Shape.descriptor, Descriptor.plain]
  | rot op l => cases l <;> simp [Shape.descriptor, Descriptor.plain]
  | bit b l | res b l | set b l => cases l <;> simp [Shape.descriptor, Descriptor.plain]
  | _ => simp [Shape.descriptor, Descriptor.plain]

/-- Every execution type costs one of the two numbers of the descriptor. -/
theorem exec_cost (i : Instr) (s : State) :
    ∃ t, exec i s = .next t ∧ (t.cycles = i.descriptor.base ∨ t.cycles = i.descriptor.alternate) := by
  obtain ⟨t, next, cost⟩ := everyInstructionRetiresByItsDescriptor i s
  refine ⟨t, next, ?_⟩
  cases h : i.shape <;> rw [h] at cost
  case jpCond cc _ | jrCond cc _ | callCond cc _ | retCond cc =>
    exact (em (CondHolds s.regs.f cc)).elim (fun taken => .inr (cost.1 taken)) fun notTaken => .inl (cost.2 notTaken).2
  case jp | jpHl | jr | call | ret | rst | reti => exact .inl cost
  all_goals exact .inl cost.2

theorem exec_cycles_le (i : Instr) (s : State) : ∃ t, exec i s = .next t ∧ t.cycles ≤ 24 := by
  obtain ⟨t, next, cost⟩ := exec_cost i s
  obtain ⟨base, alternate⟩ := descriptor_le i.shape
  exact ⟨t, next, cost.elim (fun h => h ▸ base) fun h => h ▸ alternate⟩

/-! ### The control state (R485, R486, R490) -/

theorem endOfStep_haltBug (s : State) : (endOfStep s).haltBug = s.haltBug := by unfold endOfStep; split <;> rfl
theorem endOfStep_halted (s : State) : (endOfStep s).halted = s.halted := by unfold endOfStep; split <;> rfl

/-- The end of a step counts a delay of 2 down to 1, and a shorter one to 0. -/
theorem endOfStep_eiDelay_ne_two (s : State) : (endOfStep s).eiDelay ≠ 2 := by
  unfold endOfStep
  split
  · next h => rw [h]; decide
  · exact (by decide : (0 : Fin 3) ≠ 2)
  · exact (by decide : (1 : Fin 3) ≠ 2)

/-- HALT either sets the halt bug or halts (R421). -/
theorem enterHalt_control (s : State) :
    (enterHalt s).control = { s.control with haltBug := true } ∨ (enterHalt s).control = { s.control with halted := true } := by
  unfold enterHalt
  split
  · exact .inl rfl
  · exact .inr rfl

/-- Of an awake CPU's instructions only HALT can set the halt bug, and then it does not halt. -/
theorem controlAfter_awake (x : Shape) {s : State} (awake : s.halted = false) :
    (Shape.controlAfter x s).haltBug = true → (Shape.controlAfter x s).halted = false := by
  cases x with
  | halt =>
    unfold Shape.controlAfter
    rcases enterHalt_control { s with haltBug := false } with h | h <;> rw [h]
    · exact fun _ => awake
    · nofun
  | _ => nofun

theorem dispatchInterrupt_controlOk (s : State) : controlOk (dispatchInterrupt s) := by
  have pushed := push16_control { s with ime := false, eiDelay := 0, haltBug := false } (s.regs.pc - s.haltBugBytes)
  have bug : (dispatchInterrupt s).haltBug = false := congrArg Control.haltBug pushed
  have delay : (dispatchInterrupt s).eiDelay = 0 := congrArg Control.eiDelay pushed
  exact ⟨fun h => absurd (bug.symm.trans h) Bool.false_ne_true, by rw [delay]; decide⟩

/-- A wake leaves the CPU awake, so it may set the halt bug. -/
theorem wakeFromHalt_controlOk {s : State} (h : controlOk s) : controlOk (wakeFromHalt s) := by
  unfold wakeFromHalt
  split
  · exact ⟨fun _ => rfl, h.2⟩
  · exact h

theorem beginStep_controlOk {s : State} (h : controlOk s) : controlOk (beginStep s) := by
  obtain ⟨f, j, l, e⟩ := pollButtons_eq s
  unfold beginStep
  rw [e]
  exact h

theorem advanceDevices_controlOk {s : State} (h : controlOk s) (n : Nat) : controlOk (advanceDevices n s) := by
  unfold advanceDevices
  obtain ⟨f, p, o, hp⟩ := pictureOnly_ppuAdvance n s
  obtain ⟨f', t, ht, -⟩ := timerAdvance_eq n { s with regIF := f, ppu := p, out := o }
  rw [hp, ht]
  exact h

/-! ### The step -/

theorem State.SystemOk.inv {s : State} (system : s.SystemOk) (control : controlOk s) : s.Inv := (inv_iff s).mpr ⟨system, control⟩

section

variable {s : State} (h : s.Inv)
include h

theorem State.Inv.system : s.SystemOk := ((inv_iff s).mp h).1

/-- An awake CPU's instruction and the end of the step keep the invariant. -/
theorem exec_inv (awake : s.halted = false) (i : Instr) :
    ∃ t, exec i s = .next t ∧ (endOfStep t).Inv ∧ (endOfStep t).cycles ≤ 24 := by
  obtain ⟨t, next, system⟩ := exec_systemOk h.system i
  obtain ⟨t₁, next₁, control⟩ := exec_control s i
  obtain ⟨t₂, next₂, cycles⟩ := exec_cycles_le i s
  cases next.symm.trans next₁
  cases next.symm.trans next₂
  have bug : t.haltBug = true → t.halted = false := by
    have after := controlAfter_awake i.shape awake
    rwa [← control] at after
  refine ⟨t, next, system.endOfStep.inv ⟨?_, endOfStep_eiDelay_ne_two t⟩, ?_⟩
  · rwa [endOfStep_haltBug, endOfStep_halted]
  · rwa [endOfStep_cycles]

theorem runInstr_inv (i : Instr) : ∃ t, runInstr i s = .next t ∧ t.Inv ∧ t.cycles ≤ 24 := by
  have woken : (wakeFromHalt s).Inv := h.system.wakeFromHalt.inv (wakeFromHalt_controlOk h.control)
  unfold runInstr
  simp only
  split
  · exact ⟨_, rfl, (woken.system.setCycles 4).inv woken.control, (by decide : 4 ≤ 24)⟩
  split
  · exact ⟨_, rfl, woken.system.dispatchInterrupt.inv (dispatchInterrupt_controlOk _), (by decide : 12 ≤ 24)⟩
  · next notHalted _ =>
    obtain ⟨t, next, ended⟩ := exec_inv woken (Bool.eq_false_iff.mpr notHalted) i
    rw [next]
    exact ⟨_, rfl, ended⟩

/-- The CPU step keeps the invariant, and hands at most 24 cycles to the devices. -/
theorem cpuStep_inv : ∃ t, cpuStep s = .next t ∧ t.Inv ∧ t.cycles ≤ 24 := by
  have stopped : (wakeFromStop s).Inv := (h.system.congr (by exact h.flags) rfl).inv h.control
  have faulted (op : Byte) : (recordFault op s).Inv := (h.system.congr (by exact h.flags) rfl).inv h.control
  unfold cpuStep
  split
  · exact ⟨_, rfl, (h.system.setCycles 4).inv h.control, (by decide : 4 ≤ 24)⟩
  split
  · exact runInstr_inv stopped _
  · exact ⟨_, rfl, faulted _, Nat.zero_le _⟩
  · exact ⟨_, rfl, faulted _, Nat.zero_le _⟩

theorem finishStep_inv (cycles : s.cycles ≤ 24) : (finishStep s).Inv := by
  unfold finishStep
  split
  · exact h
  · exact (h.system.advanceDevices _ cycles).inv (advanceDevices_controlOk h.control _)

end

/-- Settles O60: the host's buttons, the CPU step and the devices' advance each keep the invariant, the last because the CPU step
costs at most 24 cycles, less than the shortest mode of the picture unit lasts. -/
theorem stepKeepsInv : Obligations.StepKeepsInv := by
  unfold Obligations.StepKeepsInv
  intro s t h next
  have begun : (beginStep s).Inv := h.system.beginStep.inv (beginStep_controlOk h.control)
  obtain ⟨u, cpu, inv, cycles⟩ := cpuStep_inv begun
  unfold step machineStep at next
  rw [cpu] at next
  split at next
  · cases next
  · cases next
    exact finishStep_inv inv cycles

/-- Settles O59: the memories are empty, and every other part of the invariant is about fixed values. -/
theorem resetInv : Obligations.ResetInv := by
  unfold Obligations.ResetInv
  have empty (w size : Nat) : Cells.Wf size ([] : Cells w) := Cells.wf_nil size
  exact {
    flags := by unfold flagsOk; decide
    memories := ⟨empty .., empty .., empty .., empty .., empty .., empty .., empty .., empty .., empty ..⟩
    cart := by unfold cartOk; decide
    picture := by unfold pictureOk; decide
    timer := by unfold timerOk; decide
    sound := by unfold soundOk; decide
    dac := by unfold dacOk; decide
    control := by unfold controlOk; decide }

end Sys2Proof.Machine

namespace Sys2Proof.Machine

/-! ## The CPU step: the fault, stop, the halt bug, and what an instruction may change (R440, R450-R455, R485, R488) -/

/-- Settles O38: the CPU step always answers a next state, so only a recorded fault ends the run. -/
theorem runningStatesStepAndFaultedStatesDoNot : Obligations.RunningStatesStepAndFaultedStatesDoNot := by
  unfold Obligations.RunningStatesStepAndFaultedStatesDoNot
  refine fun s => ⟨fun running => ?_, fun r faulted => ?_⟩
  · obtain ⟨t, cpu, -⟩ := cpuStep_setup (beginStep s)
    exact ⟨finishStep t, step_of_cpuStep running cpu⟩
  · unfold step machineStep
    rw [faulted]

/-! ### The fetch -/

/-- The fetch reads the opcode at PC first, whatever the mode of the halt bug (R450). -/
theorem instrBytes_eq (s : State) : ∃ b1 b2, instrBytes s = [memRead s s.regs.pc, b1, b2] := by
  unfold instrBytes
  dsimp only
  split <;> exact ⟨_, _, rfl⟩

theorem decode_instrBytes_of_hole {s : State} (hole : memRead s s.regs.pc ∈ holes) :
    decode (instrBytes s) = .noDescriptor (memRead s s.regs.pc) := by
  obtain ⟨b1, b2, bytes⟩ := instrBytes_eq s
  rw [bytes]
  exact (elevenOpcodesHaveNoDescriptor _ b1 b2).1 hole

theorem decode_instrBytes_of_legal {s : State} (legal : memRead s s.regs.pc ∉ holes) :
    ∃ i rest, decode (instrBytes s) = .ok i rest := by
  obtain ⟨b1, b2, bytes⟩ := instrBytes_eq s
  obtain ⟨i, rest, decoded, -⟩ := (elevenOpcodesHaveNoDescriptor _ b1 b2).2 legal
  exact ⟨i, rest, bytes ▸ decoded⟩

/-! ### The fault (R440, R455) -/

theorem cpuStep_of_noDescriptor {s : State} {op : Byte} (notStopped : staysStopped s = false)
    (h : decode (instrBytes (wakeFromStop s)) = .noDescriptor op) : cpuStep s = .next (recordFault op s) := by
  unfold cpuStep
  simp [notStopped, h]

/-- Settles O37: the fetch stands before the wake and the interrupts, and a recorded fault stops the devices and the next step. -/
theorem illegalOpcodeFaults : Obligations.IllegalOpcodeFaults := by
  unfold Obligations.IllegalOpcodeFaults
  intro s fetches hole r
  obtain ⟨running, notStopped⟩ := fetches
  have cpu := cpuStep_of_noDescriptor notStopped (decode_instrBytes_of_hole hole)
  exact ⟨step_of_cpuStep running cpu, rfl⟩

/-! ### Stop (R488) -/

theorem cpuStep_of_stopped {s : State} (stopped : staysStopped s = true) : cpuStep s = .next (idle s) := if_pos stopped

/-- Settles O41: a stopped CPU idles, or the wake of step 0 makes it the CPU that was not stopped. -/
theorem stopIdlesAndWakes : Obligations.StopIdlesAndWakes := by
  unfold Obligations.StopIdlesAndWakes
  refine fun s running stopped => ⟨fun noRequest => ?_, fun request legal => ?_⟩
  · have stays : staysStopped (beginStep s) = true := by
      unfold staysStopped Byte.bit
      rw [stopped, noRequest]
      rfl
    exact step_of_cpuStep_running running (cpuStep_of_stopped stays) rfl
  · have wakes : staysStopped (beginStep s) = false := by simp [staysStopped, Byte.bit, request]
    obtain ⟨i, rest, decoded⟩ := decode_instrBytes_of_legal legal
    exact (cpuStep_of_decode wakes decoded).trans (cpuStep_of_decode (s := { beginStep s with stopped := false }) rfl decoded).symm

/-! ### The halt bug (R485) -/

theorem fetchByte_of_haltBug {s : State} (bug : s.haltBug = true) (k : Nat) :
    fetchByte s (k + 1) = memRead s (s.regs.pc + BitVec.ofNat 16 k) := by
  have early : s.regs.pc + BitVec.ofNat 16 (k + 1) - 1 = s.regs.pc + BitVec.ofNat 16 k := by
    rw [BitVec.ofNat_add, ← BitVec.add_assoc]
    exact BitVec.add_sub_cancel _ 1#16
  unfold fetchByte State.haltBugBytes
  rw [if_pos bug, early]

/-- Under the halt bug the fetch reads the opcode again as the byte after it; of a CB row it need not read the third byte. -/
theorem decode_instrBytes_of_haltBug {s : State} {i : Instr} {rest : List Byte} (awake : s.halted = false) (bug : s.haltBug = true)
    (h : decode [memRead s s.regs.pc, memRead s s.regs.pc, memRead s (s.regs.pc + 1)] = .ok i rest) :
    ∃ rest', decode (instrBytes s) = .ok i rest' := by
  have second : fetchByte s 1 = memRead s s.regs.pc := by
    rw [fetchByte_of_haltBug bug 0, BitVec.add_zero]
  unfold instrBytes
  simp only [wakeFromHalt_of_awake awake, second, fetchByte_of_haltBug bug 1]
  split
  · next cb =>
    rw [cb] at h ⊢
    exact decode_cb h
  · exact ⟨rest, h⟩

theorem nextPc_of_haltBug {s : State} (bug : s.haltBug = true) (len : Nat) :
    nextPc s len = s.regs.pc + BitVec.ofNat 16 len - 1 := by
  unfold nextPc
  rw [if_pos bug]

/-- An awake CPU with no interrupt to take runs the instruction it fetched, and the devices advance by its cycles. -/
theorem step_of_fetched {s t : State} {i : Instr} {rest : List Byte} (fetches : Fetches s) (notHalted : (awake s).halted = false)
    (noInterrupt : ¬ ((awake s).ime = true ∧ (awake s).pending ≠ 0))
    (fetched : decode (instrBytes (awake s)) = .ok i rest) (next : exec i (awake s) = .next t) :
    step s = .next (advanceDevices t.cycles (endOfStep t)) := by
  obtain ⟨running, notStopped⟩ := fetches
  obtain ⟨t', next', kept⟩ := exec_fixed (awake s) i
  cases next.symm.trans next'
  have cpu := (cpuStep_of_decode notStopped fetched).trans (runInstr_of_awake notHalted noInterrupt next)
  rw [step_of_cpuStep_running running cpu ((endOfStep_fixed t).trans kept), endOfStep_cycles]

/-- Settles O36: the fetch reads the opcode twice, and the address of the next instruction is one less. -/
theorem haltBugReadsOneByteEarly : Obligations.HaltBugReadsOneByteEarly := by
  unfold Obligations.HaltBugReadsOneByteEarly
  intro s fetches bug notHalted noInterrupt
  refine ⟨fun i rest decoded => ?_, fun cb => ?_⟩
  · obtain ⟨rest', fetched⟩ := decode_instrBytes_of_haltBug notHalted bug decoded
    obtain ⟨t, next, retired⟩ := everyInstructionRetiresByItsDescriptor i (awake s)
    refine ⟨t, next, step_of_fetched fetches notHalted noInterrupt fetched next, ?_⟩
    rw [← nextPc_of_haltBug bug]
    cases h : i.shape <;> rw [h] at retired
    case jp | jpHl | jpCond | jr | jrCond | call | callCond | ret | retCond | rst | reti => trivial
    all_goals exact retired.1
  · obtain ⟨rest', fetched⟩ : ∃ rest, decode (instrBytes (awake s)) = .ok .set1E rest :=
      decode_instrBytes_of_haltBug notHalted bug (by rw [cb]; rfl)
    obtain ⟨t, next, pc, -⟩ := everyInstructionRetiresByItsDescriptor .set1E (awake s)
    have one : (awake s).regs.pc + BitVec.ofNat 16 2 - 1 = (awake s).regs.pc + 1 := by bv_omega
    exact ⟨t, next, step_of_fetched fetches notHalted noInterrupt fetched next, pc.trans ((nextPc_of_haltBug bug 2).trans one)⟩

/-! ### The control state of an instruction (R36-R38) -/

/-- What each rule may change of the control state: the changes that the rules of HALT, STOP, DI, EI and RETI name, and no other. -/
theorem controlAfter_named (x : Shape) (s : State) :
    let c := Shape.controlAfter x s
    (c.ime ≠ s.ime → x = .di ∨ x = .reti) ∧ (c.eiDelay ≠ s.eiDelay → x = .di ∨ x = .ei ∨ x = .reti) ∧
    (c.halted ≠ s.halted → x = .halt) ∧ (c.haltBug = true → x = .halt) ∧ (c.stopped ≠ s.stopped → ∃ y, x = .stop y) ∧
    c.buttonsIn = s.buttonsIn ∧ c.out = s.out := by
  cases x with
  | halt =>
    unfold Shape.controlAfter
    rcases enterHalt_control { s with haltBug := false } with h | h <;> rw [h] <;>
      exact ⟨absurd rfl, absurd rfl, fun _ => rfl, fun _ => rfl, absurd rfl, rfl, rfl⟩
  | stop y => exact ⟨absurd rfl, absurd rfl, absurd rfl, nofun, fun _ => ⟨y, rfl⟩, rfl, rfl⟩
  | di => exact ⟨fun _ => .inl rfl, fun _ => .inl rfl, absurd rfl, nofun, absurd rfl, rfl, rfl⟩
  | ei => exact ⟨absurd rfl, fun _ => .inr (.inl rfl), absurd rfl, nofun, absurd rfl, rfl, rfl⟩
  | reti => exact ⟨fun _ => .inr rfl, fun _ => .inr (.inr rfl), absurd rfl, nofun, absurd rfl, rfl, rfl⟩
  | _ => exact ⟨absurd rfl, absurd rfl, absurd rfl, nofun, absurd rfl, rfl, rfl⟩

/-- Settles O34: the control state after each rule, and the recorded fault and the parameters, which no instruction changes. -/
theorem onlyNamedInstructionsChangeControlState : Obligations.OnlyNamedInstructionsChangeControlState := by
  unfold Obligations.OnlyNamedInstructionsChangeControlState
  intro i s
  obtain ⟨t, next, control⟩ := exec_control s i
  obtain ⟨t', next', fixed⟩ := exec_fixed s i
  cases next.symm.trans next'
  obtain ⟨ime, delay, halted, bug, stopped, buttons, out⟩ := control ▸ controlAfter_named i.shape s
  obtain ⟨-, -, -, params⟩ := (setup_eq_iff s t).mp (setup_eq_of_fixed_eq fixed)
  exact ⟨t, next, ime, delay, halted, bug, stopped, fault_eq_of_fixed_eq fixed, params, buttons, out⟩

end Sys2Proof.Machine

namespace Sys2Proof.Machine

/-! ## Bytes that decode are an encoding (R150, R156)

Each cell of the tables holds the instruction whose encoding begins with the cell's place: the rows are gone through cell by cell,
with the operand left as a variable. -/

/-- The instructions of a cell are encoded as the byte `op` and their operand. -/
def Entry.Encodes (op : Byte) : Entry → Prop
  | .implied i => i.encode = [op]
  | .byte f => ∀ b, (f b).encode = [op, b]
  | .word f => ∀ w, (f w).encode = [op, w.lo, w.hi]
  | .prefixCb => op = 0xCB
  | .noDescriptor => True

theorem regularTable_encodes : ∀ row ∈ regularTable.zipIdx, ∀ e ∈ row.1.zipIdx,
    Entry.Encodes (BitVec.ofNat 8 (16 * row.2 + e.2)) e.1 := by
  simp only [regularTable, List.cons_append, List.nil_append,
    regularRow0, regularRow1, regularRow2, regularRow3, regularRow4, regularRow5, regularRow6, regularRow7,
    regularRow8, regularRow9, regularRowA, regularRowB, regularRowC, regularRowD, regularRowE, regularRowF,
    List.zipIdx_cons, List.zipIdx_nil, List.forall_mem_cons, List.not_mem_nil, false_imp_iff, implies_true, Entry.Encodes,
    true_and, and_true]
  and_intros <;> intros <;> rfl

/-- What holds of a list's members at their places, and of the default, holds of every lookup at its place. -/
theorem getD_of_forall_mem_zipIdx {α : Type} {P : Nat → α → Prop} {l : List α} {d : α} (h : ∀ x ∈ l.zipIdx, P x.2 x.1)
    (n : Nat) (hd : P n d) : P n (l.getD n d) := by
  by_cases hn : n < l.length
  · rw [List.getD_eq_getElem _ _ hn]
    exact h (l[n], n) (List.mk_mem_zipIdx_iff_getElem?.mpr (List.getElem?_eq_getElem hn))
  · rwa [List.getD_eq_default _ _ (Nat.not_lt.mp hn)]

theorem lookupRegular_encodes (op : Byte) : Entry.Encodes op (lookupRegular op) := by
  have row := getD_of_forall_mem_zipIdx (d := ([] : List Entry))
    (P := fun r row => ∀ e ∈ row.zipIdx, Entry.Encodes (BitVec.ofNat 8 (16 * r + e.2)) e.1)
    regularTable_encodes (op.toNat / 16) (by simp)
  have cell := getD_of_forall_mem_zipIdx (d := .noDescriptor)
    (P := fun c e => Entry.Encodes (BitVec.ofNat 8 (16 * (op.toNat / 16) + c)) e) row (op.toNat % 16) trivial
  rwa [Nat.div_add_mod, BitVec.ofNat_toNat, BitVec.setWidth_eq] at cell

theorem lookupCb_encode : ∀ b : Byte, (lookupCb b).encode = [0xCB, b] := by decide

/-- Settles O2: by the kind of the first byte's cell, whose instruction is encoded as that byte and its operand. -/
theorem encodeOfDecode : Obligations.EncodeOfDecode := by
  unfold Obligations.EncodeOfDecode
  intro bytes i rest decoded
  cases bytes with
  | nil => cases decoded
  | cons op tail =>
    have encodes := lookupRegular_encodes op
    cases cell : lookupRegular op <;> rw [cell] at encodes
    case implied j =>
      cases (decode_implied tail cell).symm.trans decoded
      exact congrArg (· ++ rest) encodes.symm
    case byte f =>
      match tail with
      | [] => simp [decode, cell] at decoded
      | b :: _ =>
        cases (decode_byte _ cell b).symm.trans decoded
        exact congrArg (· ++ rest) (encodes b).symm
    case word f =>
      match tail with
      | [] | [_] => simp [decode, cell] at decoded
      | lo :: hi :: _ =>
        cases (decode_word _ cell lo hi).symm.trans decoded
        have operand := encodes (Word.ofBytes hi lo)
        rw [ofBytes_lo, ofBytes_hi] at operand
        exact congrArg (· ++ rest) operand.symm
    case prefixCb =>
      match tail with
      | [] => simp [decode, cell] at decoded
      | b :: _ =>
        cases (decode_prefixCb _ cell b).symm.trans decoded
        cases (encodes : op = 0xCB)
        exact congrArg (· ++ rest) (lookupCb_encode b).symm
    case noDescriptor => cases (decode_noDescriptor tail cell).symm.trans decoded

end Sys2Proof.Machine

namespace Sys2Proof.Machine

/-! ## The frequency timer and the shift register (R641, R655) -/

/-- Of a timer that ran out `a` cycles ago, all reloads but the last end at or below 0, and the last one above it. -/
theorem reloads_bounds (a : Nat) {period : Nat} (pos : 0 < period) : a / period * period ≤ a ∧ a < a / period * period + period :=
  ⟨Nat.div_mul_le_self a period, Nat.lt_div_mul_add pos⟩

theorem timerAdvanceBy_spec (n : Nat) {period : Nat} (timer : Int) (pos : 0 < period) :
    let r := timerAdvanceBy n period timer
    0 < r.1 ∧ r.1 = timer - n + (r.2 * period : Nat) ∧ (r.2 ≠ 0 → r.1 - period ≤ 0) := by
  unfold timerAdvanceBy
  dsimp only
  split
  · obtain ⟨low, high⟩ := reloads_bounds (-(timer - n)).toNat pos
    rw [Nat.succ_mul]
    exact ⟨by omega, rfl, fun _ => by omega⟩
  · exact ⟨by omega, by simp, absurd rfl⟩

/-- The bit that a step of the shift register feeds back to place `i` (R655). -/
theorem getLsbD_feedback (b : Bool) {i k : Nat} (hk : k < 15) :
    ((BitVec.ofBool b).zeroExtend 15 <<< i).getLsbD k = (decide (k = i) && b) := by
  rw [BitVec.getLsbD_shiftLeft, BitVec.getLsbD_setWidth, BitVec.getLsbD_ofBool]
  rcases Nat.lt_trichotomy k i with below | rfl | above
  · simp [below, below.ne]
  · simp [hk]
  · have away : k - i ≠ 0 := Nat.sub_ne_zero_of_lt above
    simp [away, above.ne']

theorem getLsbD_notBit6 : ∀ k < 15, (~~~(0x0040 : BitVec 15)).getLsbD k = decide (k ≠ 6) := by decide

theorem lfsrStep_getLsbD (narrow : Bool) (l : BitVec 15) {k : Nat} (hk : k < 15) :
    (lfsrStep narrow l).getLsbD k =
      if k = 14 ∨ (k = 6 ∧ narrow = true) then Bool.xor (l.getLsbD 0) (l.getLsbD 1) else l.getLsbD (k + 1) := by
  have shifted : (l >>> 1 ||| (BitVec.ofBool (l.getLsbD 0 ^^ l.getLsbD 1)).zeroExtend 15 <<< 14).getLsbD k =
      if k = 14 then Bool.xor (l.getLsbD 0) (l.getLsbD 1) else l.getLsbD (k + 1) := by
    rw [BitVec.getLsbD_or, getLsbD_feedback _ hk, BitVec.getLsbD_ushiftRight, Nat.add_comm 1 k]
    by_cases top : k = 14 <;> simp [top]
  cases narrow with
  | false => simpa [lfsrStep] using shifted
  | true =>
    unfold lfsrStep
    rw [if_pos rfl, BitVec.getLsbD_or, BitVec.getLsbD_and, getLsbD_feedback _ hk, getLsbD_notBit6 k hk, shifted]
    by_cases six : k = 6 <;> simp [six]

/-- Settles O55: the reloads by a division with remainder, and the shift register bit by bit. -/
theorem frequencyTimerAndLfsr : Obligations.FrequencyTimerAndLfsr := by
  unfold Obligations.FrequencyTimerAndLfsr
  exact ⟨fun n _ timer => timerAdvanceBy_spec n timer, fun narrow l _ => lfsrStep_getLsbD narrow l⟩

/-! ## The sweep (R650, R651) -/

theorem sweepCalc_eq (q : SweepParams) (shadow : BitVec 11) : sweepCalc q shadow = sweptFrequency q shadow.toNat := by
  unfold sweepCalc sweptFrequency
  rw [Nat.shiftRight_eq_div_pow]

theorem sweepReload_of_period {q : SweepParams} (h : q.period ≠ 0) : sweepReload q = q.period.toNat := if_neg h

theorem sweepReload_of_noPeriod {q : SweepParams} (h : q.period = 0) : sweepReload q = 8 := if_pos h

theorem disableIf_eq (b : Bool) (c : Pulse) : c.disableIf b = { c with ch := { c.ch with enabled := c.ch.enabled && !b } } := by
  cases b <;> simp [Pulse.disableIf]

section

variable (q : SweepParams) {c : Pulse}

theorem sweepTick_of_off (off : c.sweep.enabled = false) : c.sweepTick q = (c, none) := by
  unfold Pulse.sweepTick
  rw [off]
  rfl

theorem sweepTick_of_counting (on : c.sweep.enabled = true) (h : 1 < c.sweep.timer) :
    c.sweepTick q = ({ c with sweep := { c.sweep with timer := c.sweep.timer - 1 } }, none) := by
  unfold Pulse.sweepTick
  rw [on, if_neg (by simp), if_pos (by omega)]

/-- A timer that has run out is reloaded; then the period, the new frequency and the shift decide. -/
theorem sweepTick_of_ended (on : c.sweep.enabled = true) (h : c.sweep.timer ≤ 1) :
    c.sweepTick q =
      let d : Pulse := { c with sweep := { c.sweep with timer := sweepReload q } }
      let f := sweptFrequency q c.sweep.shadow.toNat
      if q.period = 0 then (d, none)
      else if 2047 < f then ({ d with ch := { d.ch with enabled := false } }, none)
      else if q.shift = 0 then (d, none)
      else ({ d with
        sweep := { d.sweep with shadow := BitVec.ofNat 11 f }
        ch    := { d.ch with enabled := d.ch.enabled && decide (sweptFrequency q f ≤ 2047) } }, some (BitVec.ofNat 11 f)) := by
  unfold Pulse.sweepTick
  rw [on, if_neg (by simp), if_neg (by omega)]
  simp only [sweepCalc_eq, disableIf_eq, Bool.not_true, Bool.and_false]
  refine if_congr Iff.rfl rfl ?_
  split
  · rfl
  · next within =>
    have fits : (BitVec.ofNat 11 (sweptFrequency q c.sweep.shadow.toNat)).toNat = sweptFrequency q c.sweep.shadow.toNat := by
      rw [BitVec.toNat_ofNat, Nat.mod_eq_of_lt (by omega)]
    simp only [fits, ← decide_not, Nat.not_lt]

end

/-- Channel 2's parameters have no period, so its tick counts its timer and does nothing else. -/
theorem sweepTick_sweepParams2 (c : Pulse) :
    (c.sweepTick sweepParams2).2 = none ∧ (c.sweepTick sweepParams2).1.ch = c.ch := by
  cases on : c.sweep.enabled with
  | false => rw [sweepTick_of_off _ on]; exact ⟨rfl, rfl⟩
  | true =>
    by_cases counting : 1 < c.sweep.timer
    · rw [sweepTick_of_counting _ on counting]; exact ⟨rfl, rfl⟩
    · rw [sweepTick_of_ended _ on (Int.not_lt.mp counting)]; exact ⟨rfl, rfl⟩

theorem toNat_field (v : Byte) (lo n : Nat) : (Byte.field v lo n).toNat = v.toNat / 2 ^ lo % 2 ^ n := by
  rw [Byte.field, BitVec.extractLsb'_toNat, Nat.shiftRight_eq_div_pow]

theorem toNat_field_zero (v : Byte) (n : Nat) : (Byte.field v 0 n).toNat = v.toNat % 2 ^ n := BitVec.toNat_ofNat v.toNat n

/-- `NRx4[2:0] <- new[10:8]` by arithmetic (R651). -/
theorem withFreqHigh_eq (nrx4 : Byte) (f : BitVec 11) :
    withFreqHigh nrx4 f = BitVec.ofNat 8 (nrx4.toNat / 8 * 8 + f.toNat / 256) := by
  apply BitVec.eq_of_toNat_eq
  unfold withFreqHigh
  rw [toNat_append_eq_add, toNat_field, BitVec.extractLsb'_toNat, Nat.shiftRight_eq_div_pow, BitVec.toNat_ofNat]
  omega

theorem sweepParams1_eq (g : SoundRegs) :
    sweepParams1 g = ⟨BitVec.ofNat 3 (g.nr10.toNat / 16), g.nr10.getLsbD 3, BitVec.ofNat 3 g.nr10.toNat⟩ := by
  unfold sweepParams1 Byte.field BitVec.extractLsb'
  rw [Nat.shiftRight_eq_div_pow]
  rfl

theorem writeBack1_some (g : SoundRegs) (f : BitVec 11) :
    g.writeBack1 (some f) = { g with
      nr13 := BitVec.ofNat 8 f.toNat, nr14 := BitVec.ofNat 8 (g.nr14.toNat / 8 * 8 + f.toNat / 256) } := by
  rw [← withFreqHigh_eq]
  rfl

/-- Settles O56: the tick by its timer, and a tick that ran out by the period, the new frequency and the shift. -/
theorem sweepTick : Obligations.SweepTick := by
  unfold Obligations.SweepTick
  refine ⟨fun q c => ?_, fun g => ⟨sweepParams1_eq g, rfl, writeBack1_some g⟩, rfl, sweepTick_sweepParams2⟩
  intro f
  refine ⟨sweepTick_of_off q, sweepTick_of_counting q, fun on ended noPeriod => ?_, fun on ended period overflow => ?_,
    fun on ended period within noShift => ?_, fun on ended period within shift => ?_⟩ <;> rw [sweepTick_of_ended q on ended]
  · rw [sweepReload_of_noPeriod noPeriod]
    exact if_pos noPeriod
  · rw [sweepReload_of_period period]
    exact (if_neg period).trans (if_pos overflow)
  · rw [sweepReload_of_period period]
    exact (if_neg period).trans ((if_neg (Nat.not_lt.mpr within)).trans (if_pos noShift))
  · rw [sweepReload_of_period period]
    exact (if_neg period).trans ((if_neg (Nat.not_lt.mpr within)).trans (if_neg shift))

end Sys2Proof.Machine

namespace Sys2Proof.Machine

/-! ## The output of the sound unit (R660, R670, R672) -/

/-! ### The levels (R660) -/

theorem dutyTable_eq : ∀ (code : BitVec 2) (pos : BitVec 3),
    (dutyTable.getD code.toNat []).getD pos.toNat 0 = (dutyHigh code pos).toNat := by decide

theorem ofNat_pulseLevel (nrx1 : Byte) (c : Pulse) : BitVec.ofNat 4 (pulseLevel nrx1 c) = c.level nrx1 := by
  have code : nrx1.toNat / 64 = (Byte.field nrx1 6 2).toNat := by
    rw [toNat_field]
    omega
  unfold pulseLevel Pulse.level
  rw [code, dutyTable_eq]
  cases c.ch.enabled <;> cases dutyHigh (Byte.field nrx1 6 2) c.dutyPos <;> simp

theorem waveShift_eq : ∀ code : BitVec 2, [4, 0, 1, 2].getD code.toNat 0 = waveShift code := by decide

theorem toNat_waveSample (x : Sound) (k : BitVec 5) :
    (x.waveSample k).toNat =
      let byte := (Cells.get x.waveRam (k.toNat / 2)).toNat
      if k.toNat % 2 = 0 then byte / 16 else byte % 16 := by
  unfold Sound.waveSample
  simp only
  split <;> rw [toNat_field] <;> omega

theorem ofNat_waveLevel (x : Sound) : BitVec.ofNat 4 (channelLevel x 3) = x.waveLevel := by
  have code : x.regs.nr32.toNat / 32 % 4 = (Byte.field x.regs.nr32 5 2).toNat := (toNat_field x.regs.nr32 5 2).symm
  unfold channelLevel Sound.waveLevel
  simp only
  rw [code, waveShift_eq, ← toNat_waveSample]
  split
  · apply BitVec.eq_of_toNat_eq
    rw [BitVec.toNat_ofNat, BitVec.toNat_ushiftRight, Nat.shiftRight_eq_div_pow]
    exact Nat.mod_eq_of_lt (Nat.lt_of_le_of_lt (Nat.div_le_self ..) (BitVec.isLt _))
  · rfl

theorem ofNat_noiseLevel (x : Sound) : BitVec.ofNat 4 (channelLevel x 4) = x.ch4.level := by
  unfold channelLevel Noise.level
  cases x.ch4.ch.enabled <;> cases x.ch4.lfsr.getLsbD 0 <;> simp

/-! ### The mix (R670) -/

theorem side_eq (x : Sound) (base : Nat) : x.side base = mixedSide x base := by
  have level1 : BitVec.ofNat 4 (channelLevel x 1) = x.ch1.level x.regs.nr11 := ofNat_pulseLevel ..
  have level2 : BitVec.ofNat 4 (channelLevel x 2) = x.ch2.level x.regs.nr21 := ofNat_pulseLevel ..
  unfold Sound.side mixedSide
  simp only [List.map_cons, List.map_nil, List.sum_cons, List.sum_nil, level1, level2, ofNat_waveLevel, ofNat_noiseLevel,
    gated, Byte.bit, add_zero, ← add_assoc, Nat.add_sub_cancel]
  rfl

theorem mix_eq (x : Sound) :
    x.mix = if x.regs.master = true then Config.mixQuant (mixedSide x 4) (mixedSide x 0) x.regs.nr50 else (0, 0) := by
  unfold Sound.mix
  rw [side_eq, side_eq]

/-- Settles O57: the cadence divides the cycles owed by the period, and the mix does not read the remainder. -/
theorem samplesAtTheCadence : Obligations.SamplesAtTheCadence := by
  unfold Obligations.SamplesAtTheCadence
  intro s n positive t pair
  have owed : t.sound.sampleAcc = (s.sound.sampleAcc + n * s.params.samplePeriodDen) -
      (s.sound.sampleAcc + n * s.params.samplePeriodDen) / s.params.samplePeriodNum * s.params.samplePeriodNum := by
    rw [← advance_sampleAcc n s.sound]
    rfl
  refine ⟨mix_eq t.sound, ⟨_, rfl, ?_⟩, ?_, rfl, rfl⟩
  · rw [owed, advance_sampleAcc]
    exact (Nat.add_sub_of_le (Nat.div_mul_le_self ..)).symm
  · rw [owed]
    exact sub_div_mul_lt _ positive

end Sys2Proof.Machine

namespace Sys2Proof.Machine

/-! ## The periods (R621, R641, R655) -/

theorem toNat_frequency (nrx4 nrx3 : Byte) : (frequency nrx4 nrx3).toNat = nrx4.toNat % 8 * 256 + nrx3.toNat := by
  unfold frequency
  rw [toNat_append_eq_add, toNat_field_zero]
  rfl

theorem noiseDivisor_eq : ∀ r : BitVec 3, [8, 16, 32, 48, 64, 80, 96, 112].getD r.toNat 0 = noiseDivisor r := by decide

theorem noisePeriod_eq (nr43 : Byte) : noisePeriod nr43 = noiseCycles nr43 := by
  have divisor : nr43.toNat % 8 = (Byte.field nr43 0 3).toNat := (toNat_field_zero nr43 3).symm
  have shift : nr43.toNat / 16 = (Byte.field nr43 4 4).toNat := by rw [toNat_field]; omega
  unfold noisePeriod noiseCycles
  rw [divisor, shift, noiseDivisor_eq, Nat.shiftLeft_eq]

/-! ## The ticks (R640, R645, R648) -/

theorem lengthTick_of_counting {c : Channel} (h : c.lengthEnabled = true ∧ 0 < c.length) :
    c.lengthTick = { c with length := c.length - 1, enabled := c.enabled && decide (1 < c.length) } := by
  have last : decide (c.length ≠ 1) = decide (1 < c.length) := decide_eq_decide.mpr (by omega)
  unfold Channel.lengthTick
  rw [h.1, decide_eq_true h.2, last]
  rfl

theorem lengthTick_of_idle {c : Channel} (h : ¬ (c.lengthEnabled = true ∧ 0 < c.length)) : c.lengthTick = c :=
  if_neg (by simpa using h)

/-- A volume step moves by one towards 15 or 0 and stops there. -/
theorem toNat_volumeStep : ∀ (up : Bool) (vol : BitVec 4),
    (if up then (if vol = 15 then vol else vol + 1) else (if vol = 0 then vol else vol - 1)).toNat =
      if up = true then min 15 (vol.toNat + 1) else vol.toNat - 1 := by decide

theorem envelopeTick_of_counting {e : Envelope} (period : e.period ≠ 0) (counting : e.timer ≠ 1) :
    e.tick = { e with timer := e.timer - 1 } := by
  unfold Envelope.tick
  rw [if_neg period, if_neg (by omega)]

theorem envelopeTick_of_ended {e : Envelope} (period : e.period ≠ 0) (ended : e.timer = 1) :
    e.tick.timer = e.period.toNat ∧ e.tick.period = e.period ∧ e.tick.dir = e.dir ∧
      e.tick.vol.toNat = if e.dir = true then min 15 (e.vol.toNat + 1) else e.vol.toNat - 1 := by
  unfold Envelope.tick
  rw [if_neg period, if_pos (by omega)]
  exact ⟨rfl, rfl, rfl, toNat_volumeStep e.dir e.vol⟩

/-- The steps of the frame sequencer that an advance fires (R640). -/
theorem fires_eq (x : Sound) (n : Nat) :
    firesLength (x.fires n) = sequencerFires x n [0, 2, 4, 6] ∧ firesSweep (x.fires n) = sequencerFires x n [2, 6] ∧
    firesEnvelope (x.fires n) = sequencerFires x n [7] := by
  have steps : ∀ k : BitVec 3, firesLength (some k) = decide (k.toNat ∈ [0, 2, 4, 6]) ∧
      firesSweep (some k) = decide (k.toNat ∈ [2, 6]) ∧ firesEnvelope (some k) = decide (k.toNat ∈ [7]) := by decide
  unfold Sound.fires sequencerFires
  by_cases due : 8192 ≤ x.fsAcc + n
  · simpa only [due, true_and, if_true] using steps x.fsStep
  · simp only [due, false_and, decide_false, if_false]
    exact ⟨rfl, rfl, rfl⟩

/-- What a pulse channel's ticks leave, field by field: a sweep tick leaves the envelope and the wave position alone. -/
theorem sequence_eq (fire : Option (BitVec 3)) (q : SweepParams) (c : Pulse) :
    c.sequence fire q =
      let p : Pulse := { c with ch := if firesLength fire then c.ch.lengthTick else c.ch }
      let r := if firesSweep fire then p.sweepTick q else (p, none)
      (⟨r.1.ch, c.dutyPos, if firesEnvelope fire then c.env.tick else c.env, r.1.sweep⟩, r.2) := by
  extract_lets p r
  have channel : (if firesLength fire then { c with ch := c.ch.lengthTick } else c) = p := by
    unfold p
    split <;> rfl
  have rest : r.1.env = c.env ∧ r.1.dutyPos = c.dutyPos := by
    unfold r
    split
    · exact sweepTick_rest q p
    · exact ⟨rfl, rfl⟩
  unfold Pulse.sequence
  rw [channel, ← rest.1, ← rest.2]
  cases firesEnvelope fire <;> rfl

/-! ## The advance (R640, R641) -/

theorem ofNat_toNat_add_ofNat {w : Nat} (pos : BitVec w) (k : Nat) : BitVec.ofNat w (pos.toNat + k) = pos + BitVec.ofNat w k := by
  rw [BitVec.ofNat_add, BitVec.ofNat_toNat, BitVec.setWidth_eq]

theorem pulseFreqAdvance_eq (n : Nat) (nrx4 nrx3 : Byte) (c : Pulse) :
    c.freqAdvance n (frequency nrx4 nrx3) =
      let t := timerAdvanceBy n ((2048 - (nrx4.toNat % 8 * 256 + nrx3.toNat)) * 4) c.ch.timer
      ⟨{ c.ch with timer := t.1 }, BitVec.ofNat 3 (c.dutyPos.toNat + t.2), c.env, c.sweep⟩ := by
  unfold Pulse.freqAdvance pulsePeriod
  simp only [toNat_frequency, ofNat_toNat_add_ofNat]

theorem waveFreqAdvance_eq (n : Nat) (nrx4 nrx3 : Byte) (c : Wave) :
    c.freqAdvance n (frequency nrx4 nrx3) =
      let t := timerAdvanceBy n ((2048 - (nrx4.toNat % 8 * 256 + nrx3.toNat)) * 2) c.ch.timer
      ⟨{ c.ch with timer := t.1 }, BitVec.ofNat 5 (c.wavePos.toNat + t.2)⟩ := by
  unfold Wave.freqAdvance wavePeriod
  simp only [toNat_frequency, ofNat_toNat_add_ofNat]

theorem sequencer_eq (n : Nat) (x : Sound) :
    x.sequencer n = { x with
      fsAcc  := if 8192 ≤ x.fsAcc + n then x.fsAcc + n - 8192 else x.fsAcc + n
      fsStep := if 8192 ≤ x.fsAcc + n then BitVec.ofNat 3 (x.fsStep.toNat + 1) else x.fsStep } := by
  unfold Sound.sequencer
  rw [ofNat_toNat_add_ofNat]
  split <;> rfl

/-! The channels advance one after another, each by its own registers; only channel 1's sweep writes any of them. -/

section

variable (n : Nat) (fire : Option (BitVec 3)) (x : Sound)

theorem advance2_eq :
    x.advance2 n fire = { x with ch2 := (x.ch2.sequence fire sweepParams2).1.freqAdvance n x.regs.f2 } := by
  have nothing : (x.ch2.sequence fire sweepParams2).2 = none := by
    rw [sequence_eq]
    dsimp only
    split
    · exact (sweepTick_sweepParams2 _).1
    · rfl
  unfold Sound.advance2
  dsimp only
  rw [nothing]
  rfl

theorem advance3_eq :
    x.advance3 n fire = { x with
      ch3 := Wave.freqAdvance n x.regs.f3 { x.ch3 with ch := if firesLength fire then x.ch3.ch.lengthTick else x.ch3.ch } } := by
  unfold Sound.advance3
  split <;> rfl

theorem advance4_eq :
    x.advance4 n fire = { x with
      ch4 := Noise.freqAdvance n x.regs.nr43 { x.ch4 with
        ch  := if firesLength fire then x.ch4.ch.lengthTick else x.ch4.ch
        env := if firesEnvelope fire then x.ch4.env.tick else x.ch4.env } } := by
  unfold Sound.advance4
  cases firesLength fire <;> cases firesEnvelope fire <;> rfl

end

/-- Settles O54: the ticks by their cases, and the advance channel by channel, with its periods by arithmetic. -/
theorem lengthAndEnvelopeTicks : Obligations.LengthAndEnvelopeTicks := by
  unfold Obligations.LengthAndEnvelopeTicks
  refine ⟨fun c => ?_, fun e => ⟨fun noPeriod => if_pos noPeriod, envelopeTick_of_counting, envelopeTick_of_ended⟩, fun x n => ?_⟩
  · by_cases counting : c.lengthEnabled = true ∧ 0 < c.length
    · rw [lengthTick_of_counting counting]
      exact ⟨fun _ => ⟨rfl, rfl⟩, absurd counting, rfl, rfl⟩
    · rw [lengthTick_of_idle counting]
      exact ⟨fun h => absurd h counting, fun _ => rfl, rfl, rfl⟩
  · obtain ⟨length, sweep, envelope⟩ := fires_eq x n
    have pulse (q : SweepParams) (c : Pulse) := sequence_eq (x.fires n) q c
    simp only [length, sweep, envelope] at pulse
    unfold Sound.advance
    rw [sequencer_eq, advance4_eq, advance3_eq, advance2_eq]
    unfold Sound.advance1 SoundRegs.f1 SoundRegs.f2 SoundRegs.f3
    simp only [length, envelope, pulse, pulseFreqAdvance_eq, waveFreqAdvance_eq]
    unfold Noise.freqAdvance
    rw [noisePeriod_eq]
    rfl

end Sys2Proof.Machine

namespace Sys2Proof.Machine

/-! ## Triggers and the access to the sound registers (R622, R623, R630, R652) -/

theorem envDacOn_eq : ∀ v : Byte, envDacOn v = decide (8 ≤ v.toNat) := by decide

theorem shortLength_eq (v : Byte) : shortLength v = 64 - v.toNat % 64 :=
  congrArg (64 - ·) (toNat_field_zero v 6)

theorem envelopeTrigger_eq (nrx2 : Byte) : Envelope.trigger nrx2 = latchedEnvelope nrx2 := by
  have volume : Byte.field nrx2 4 4 = BitVec.ofNat 4 (nrx2.toNat / 16) := by
    rw [Byte.field, BitVec.extractLsb', Nat.shiftRight_eq_div_pow]
  have timer : (Byte.field nrx2 0 3).toNat = nrx2.toNat % 8 := toNat_field_zero nrx2 3
  unfold Envelope.trigger latchedEnvelope
  rw [volume, timer]
  rfl

/-- What a trigger makes of a pulse channel whose frequency is `f` (R630, R652). -/
def triggeredPulse (nrx2 : Byte) (f : Nat) (q : SweepParams) (lengthEnabled : Bool) (c : Channel) : Pulse where
  ch      := ⟨decide (8 ≤ nrx2.toNat) && !(q.shift != 0 && decide (2047 < sweptFrequency q f)), ((2048 - f) * 4 : Nat),
    lengthEnabled, if c.length = 0 then 64 else c.length⟩
  dutyPos := 0
  env     := latchedEnvelope nrx2
  sweep   := ⟨q.period != 0 || q.shift != 0, BitVec.ofNat 11 f, sweepReload q⟩

theorem pulseTrigger_eq (nrx2 nrx4 nrx3 : Byte) (q : SweepParams) (c : Pulse) :
    c.trigger nrx2 (frequency nrx4 nrx3) q =
      triggeredPulse nrx2 (nrx4.toNat % 8 * 256 + nrx3.toNat) q c.ch.lengthEnabled c.ch := by
  have shadow : BitVec.ofNat 11 (nrx4.toNat % 8 * 256 + nrx3.toNat) = frequency nrx4 nrx3 := by
    rw [← toNat_frequency, BitVec.ofNat_toNat, BitVec.setWidth_eq]
  unfold Pulse.trigger Pulse.sweepTrigger triggeredPulse
  rw [disableIf_eq, sweepCalc_eq, toNat_frequency, shadow, ← envelopeTrigger_eq, ← envDacOn_eq, ← toNat_frequency]
  rfl

/-- Channel 2 has no sweep parameters, so its trigger neither enables the sweep nor disables the channel (R650, R652). -/
theorem triggeredPulse_sweepParams2 (nrx2 : Byte) (f : Nat) (lengthEnabled : Bool) (c : Channel) :
    triggeredPulse nrx2 f sweepParams2 lengthEnabled c = {
      ch      := ⟨decide (8 ≤ nrx2.toNat), ((2048 - f) * 4 : Nat), lengthEnabled, if c.length = 0 then 64 else c.length⟩
      dutyPos := 0
      env     := latchedEnvelope nrx2
      sweep   := ⟨false, BitVec.ofNat 11 f, 8⟩ } := by
  simp [triggeredPulse, sweepParams2, sweepReload]

theorem waveTrigger_eq (nr30 nr34 nr33 : Byte) (c : Wave) :
    c.trigger nr30 (frequency nr34 nr33) =
      ⟨⟨nr30.getLsbD 7, ((2048 - (nr34.toNat % 8 * 256 + nr33.toNat)) * 2 : Nat), c.ch.lengthEnabled,
        if c.ch.length = 0 then 256 else c.ch.length⟩, 0⟩ := by
  rw [← toNat_frequency]
  rfl

theorem noiseTrigger_eq (nr42 nr43 : Byte) (c : Noise) :
    c.trigger nr42 nr43 = {
      ch   := ⟨decide (8 ≤ nr42.toNat), (noiseCycles nr43 : Nat), c.ch.lengthEnabled, if c.ch.length = 0 then 64 else c.ch.length⟩
      lfsr := 0x7FFF
      env  := latchedEnvelope nr42 } := by
  rw [← envDacOn_eq, ← noisePeriod_eq, ← envelopeTrigger_eq]
  rfl

/-! ### The registers that trigger: a write of NRx4 with bit 7 -/

section

variable (x : Sound) {v : Byte} (trigger : v.getLsbD 7 = true)
include trigger

theorem soundWrite_nr14_trigger :
    x.write .nr14 v = { x with
      regs := { x.regs with nr14 := v }
      ch1  := triggeredPulse x.regs.nr12 (v.toNat % 8 * 256 + x.regs.nr13.toNat) (sweepParams1 x.regs) (v.getLsbD 6)
        x.ch1.ch } := by
  have channel : (x.write .nr14 v).ch1 = _ := (if_pos trigger).trans (pulseTrigger_eq ..)
  exact congrArg (fun c => { x with regs := { x.regs with nr14 := v }, ch1 := c }) channel

theorem soundWrite_nr24_trigger :
    x.write .nr24 v = { x with
      regs := { x.regs with nr24 := v }
      ch2  := triggeredPulse x.regs.nr22 (v.toNat % 8 * 256 + x.regs.nr23.toNat) sweepParams2 (v.getLsbD 6) x.ch2.ch } := by
  have channel : (x.write .nr24 v).ch2 = _ := (if_pos trigger).trans (pulseTrigger_eq ..)
  exact congrArg (fun c => { x with regs := { x.regs with nr24 := v }, ch2 := c }) channel

theorem soundWrite_nr34_trigger :
    x.write .nr34 v = { x with
      regs := { x.regs with nr34 := v }
      ch3  := ⟨⟨x.regs.nr30.getLsbD 7, ((2048 - (v.toNat % 8 * 256 + x.regs.nr33.toNat)) * 2 : Nat), v.getLsbD 6,
        if x.ch3.ch.length = 0 then 256 else x.ch3.ch.length⟩, 0⟩ } := by
  have channel : (x.write .nr34 v).ch3 = _ := (if_pos trigger).trans (waveTrigger_eq ..)
  exact congrArg (fun c => { x with regs := { x.regs with nr34 := v }, ch3 := c }) channel

theorem soundWrite_nr44_trigger :
    x.write .nr44 v = { x with
      regs := { x.regs with nr44 := v }
      ch4  := {
        ch   := ⟨decide (8 ≤ x.regs.nr42.toNat), (noiseCycles x.regs.nr43 : Nat), v.getLsbD 6,
          if x.ch4.ch.length = 0 then 64 else x.ch4.ch.length⟩
        lfsr := 0x7FFF
        env  := latchedEnvelope x.regs.nr42 } } := by
  have channel : (x.write .nr44 v).ch4 = _ := (if_pos trigger).trans (noiseTrigger_eq ..)
  exact congrArg (fun c => { x with regs := { x.regs with nr44 := v }, ch4 := c }) channel

end

/-! ### The fields of NR10 by arithmetic (R650) -/

section

variable (g : SoundRegs)

theorem toNat_sweepPeriod1 : (sweepParams1 g).period.toNat = g.nr10.toNat / 16 % 8 := toNat_field g.nr10 4 3

theorem toNat_sweepShift1 : (sweepParams1 g).shift.toNat = g.nr10.toNat % 8 := toNat_field_zero g.nr10 3

theorem sweptFrequency_sweepParams1 (f : Nat) :
    sweptFrequency (sweepParams1 g) f =
      if g.nr10.getLsbD 3 = true then f - f / 2 ^ (g.nr10.toNat % 8) else f + f / 2 ^ (g.nr10.toNat % 8) := by
  unfold sweptFrequency
  rw [toNat_sweepShift1]
  rfl

end

theorem bne_zero_eq : ∀ b : BitVec 3, (b != 0) = decide (b.toNat ≠ 0) := by decide

theorem sweepReload_eq (q : SweepParams) : sweepReload q = ((if q.period.toNat = 0 then 8 else q.period.toNat : Nat) : Int) := by
  have zero : q.period = 0 ↔ q.period.toNat = 0 := BitVec.toNat_eq
  unfold sweepReload
  simp only [zero]
  split <;> rfl

/-- What the sweep parameters of NR10 decide in a trigger of channel 1. -/
theorem triggeredPulse_sweepParams1 (g : SoundRegs) (f : Nat) (lengthEnabled : Bool) (c : Channel) :
    let p := triggeredPulse g.nr12 f (sweepParams1 g) lengthEnabled c
    let shift := g.nr10.toNat % 8
    let period := g.nr10.toNat / 16 % 8
    let swept := if g.nr10.getLsbD 3 = true then f - f / 2 ^ shift else f + f / 2 ^ shift
    (p.ch.enabled = true ↔ 8 ≤ g.nr12.toNat ∧ ¬ (shift ≠ 0 ∧ 2047 < swept)) ∧
    p.sweep.enabled = decide (period ≠ 0 ∨ shift ≠ 0) ∧
    p.sweep.timer = ((if period = 0 then 8 else period : Nat) : Int) := by
  unfold triggeredPulse
  dsimp only
  rw [bne_zero_eq, bne_zero_eq, sweepReload_eq, toNat_sweepPeriod1, toNat_sweepShift1, sweptFrequency_sweepParams1]
  refine ⟨?_, (Bool.decide_or ..).symm, rfl⟩
  rw [← Bool.decide_and, ← decide_not, ← Bool.decide_and]
  exact decide_eq_true_iff

/-! ### A write without a trigger -/

theorem memWrite_nrx4 (s : State) (v : Byte) :
    let written (r : SoundReg) : State := { s with sound := s.sound.write r v }
    memWrite 0xFF14 v s = written .nr14 ∧ memWrite 0xFF19 v s = written .nr24 ∧ memWrite 0xFF1E v s = written .nr34 ∧
    memWrite 0xFF23 v s = written .nr44 := ⟨rfl, rfl, rfl, rfl⟩

/-- NRx4 without bit 7 stores the byte and sets the length enable. -/
theorem memWrite_nrx4_noTrigger (s : State) {v : Byte} (h : v.getLsbD 7 = false) :
    let g := s.sound.regs
    memWrite 0xFF14 v s = withChannel1 s { g with nr14 := v } { s.sound.ch1.ch with lengthEnabled := v.getLsbD 6 } ∧
    memWrite 0xFF19 v s = withChannel2 s { g with nr24 := v } { s.sound.ch2.ch with lengthEnabled := v.getLsbD 6 } ∧
    memWrite 0xFF1E v s = withChannel3 s { g with nr34 := v } { s.sound.ch3.ch with lengthEnabled := v.getLsbD 6 } ∧
    memWrite 0xFF23 v s = withChannel4 s { g with nr44 := v } { s.sound.ch4.ch with lengthEnabled := v.getLsbD 6 } := by
  have noTrigger : Byte.bit v 7 = false := h
  obtain ⟨nr14, nr24, nr34, nr44⟩ := memWrite_nrx4 s v
  rw [nr14, nr24, nr34, nr44]
  unfold Sound.write
  simp only [noTrigger]
  exact ⟨rfl, rfl, rfl, rfl⟩

theorem toNat_readNr52 (x : Sound) :
    x.readNr52.toNat = (if x.regs.master = true then 128 else 0) + (if x.ch4.ch.enabled = true then 8 else 0) +
      (if x.ch3.ch.enabled = true then 4 else 0) + (if x.ch2.ch.enabled = true then 2 else 0) +
      (if x.ch1.ch.enabled = true then 1 else 0) := by
  have place (b : Bool) (n : Nat) : (if b = true then n else 0) = b.toNat * n := by cases b <;> simp
  unfold Sound.readNr52
  simp only [toNat_append_eq_add, BitVec.toNat_ofBool, BitVec.ofNat_eq_ofNat, BitVec.toNat_ofNat, Nat.zero_mod, place]
  omega

theorem region_ff15_ff1f : ∀ a : Word, a = 0xFF15 ∨ a = 0xFF1F → region a = .unmapped := by
  have unused : ∀ k < 0x80, k = 0x15 ∨ k = 0x1F → ioRegion k = .unmapped := by decide
  rintro a (rfl | rfl) <;> exact (region_io (by decide) (by decide)).trans (unused _ (by decide) (by decide))

theorem region_waveRam : ∀ k < 16, region (0xFF30 + BitVec.ofNat 16 k) = .waveRam k := by
  intro k hk
  have wave : ∀ k < 16, ioRegion (0x30 + k) = .waveRam k := by decide
  have place : (0xFF30 + BitVec.ofNat 16 k : Word).toNat = 0xFF00 + (0x30 + k) := by bv_omega
  rw [region_io (by omega) (by omega), place, Nat.add_sub_cancel_left]
  exact wave k hk

theorem bus_waveRam (s : State) (v : Byte) {k : Nat} (hk : k < 16) :
    let a : Word := 0xFF30 + BitVec.ofNat 16 k
    memRead s a = Cells.get s.sound.waveRam k ∧ memRead (memWrite a v s) a = v ∧
    memWrite a v s = { s with sound := { s.sound with waveRam := Cells.set s.sound.waveRam k v } } := by
  intro a
  unfold memRead memWrite
  rw [show region a = .waveRam k from region_waveRam k hk]
  exact ⟨rfl, Cells.get_set_same _ k v, rfl⟩

/-- Settles O53: a sound register's write is the model's own arm for it; the four triggers by their lemmas, the DACs, the lengths
and NR52 by arithmetic. -/
theorem triggerOfChannelOne : Obligations.TriggerOfChannelOne := by
  unfold Obligations.TriggerOfChannelOne
  refine ⟨fun s v trigger => ?_, fun s v trigger => ?_, fun s v => ?_⟩
  · extract_lets x f shift period swept
    have written : memWrite 0xFF14 v s = { s with sound := s.sound.write .nr14 v } := rfl
    rw [soundWrite_nr14_trigger s.sound trigger] at written
    have channel : x.ch1 = triggeredPulse s.sound.regs.nr12 f (sweepParams1 s.sound.regs) (v.getLsbD 6) s.sound.ch1.ch :=
      congrArg (fun t => t.sound.ch1) written
    have volume : (BitVec.ofNat 4 (s.sound.regs.nr12.toNat / 16)).toNat = s.sound.regs.nr12.toNat / 16 := by
      rw [BitVec.toNat_ofNat, Nat.mod_eq_of_lt (by omega)]
    obtain ⟨enabled, sweepEnabled, timer⟩ := triggeredPulse_sweepParams1 s.sound.regs f (v.getLsbD 6) s.sound.ch1.ch
    have shadow : (BitVec.ofNat 11 f).toNat = f := by rw [BitVec.toNat_ofNat, Nat.mod_eq_of_lt (by omega)]
    rw [channel]
    exact ⟨enabled, rfl, rfl, rfl, rfl, volume, rfl, BitVec.toNat_ofNat .., rfl, shadow, sweepEnabled, timer, rfl, rfl, rfl, rfl,
      rfl, written⟩
  · intro g f2 f3 c2 c3 c4
    refine ⟨?_, ?_, ?_⟩
    · rw [← triggeredPulse_sweepParams2]
      exact congrArg (fun x => { s with sound := x }) (soundWrite_nr24_trigger s.sound trigger)
    · exact congrArg (fun x => { s with sound := x }) (soundWrite_nr34_trigger s.sound trigger)
    · exact congrArg (fun x => { s with sound := x }) (soundWrite_nr44_trigger s.sound trigger)
  · intro g c1 c2 c3 c4
    refine ⟨⟨rfl, rfl, rfl, rfl, rfl, rfl, rfl, rfl, rfl⟩, ?_, ?_, memWrite_nrx4_noTrigger s, rfl, toNat_readNr52 s.sound,
      fun a unused => bus_unmapped (region_ff15_ff1f a unused) s v, fun k => bus_waveRam s v⟩
    · rw [← shortLength_eq]
      exact ⟨rfl, rfl, rfl, rfl⟩
    · rw [← envDacOn_eq]
      exact ⟨rfl, rfl, rfl, rfl⟩

end Sys2Proof.Machine
